-- ==== Sys2Proof/Word.lean ====
section
/-! DEFINITION. The plain words of the VK48: bus bytes, node IDs, channel numbers. -/

namespace Sys2Proof

/-- A byte on the cabin bus or in a record (R133). -/
abbrev Byte := BitVec 8

/-- A node ID, 0x00..0x3F (R136). -/
abbrev NodeId := BitVec 6

/-- A channel number, 0..47 (00_scope, Tables and records). -/
abbrev Channel := Fin 48

end Sys2Proof
end

