-- ==== Sys2Proof/Config.lean ====
section
/-! DEFINITION. The constants the spec fixes for every VK48: durations, capacities of queues, counts.
There is no implementation-defined field and no free value: the spec states every result (log 33). -/

namespace Sys2Proof.Config

/-- R4: the stale timer runs 2000 ms from each accepted sample. -/
def staleMs : Nat := 2000

/-- R4, R24: the lost timer runs 30,000 ms. -/
def lostMs : Nat := 30000

/-- R26: one assessment period. -/
def assessMs : Nat := 1000

/-- R119: the silence timer of a module runs 5000 ms from each hearing. -/
def silenceMs : Nat := 5000

/-- R160: the retry pause between two attempts. -/
def retryMs : Nat := 100

/-- R7: the longest elapsed time one sample counts, in ms. -/
def maxElapsed : Nat := 500

/-- 08, table of queues: capacity of the engine queue and of both forward queues. -/
def queueCap : Nat := 8

/-- R164: capacity of the notice queue. -/
def noticeCap : Nat := 4

/-- R160, R163: attempts of one frame. -/
def maxAttempts : Nat := 3

/-- R159: engine attempts in a row after which a ready forwarded frame goes first. -/
def engineRun : Nat := 4

/-- R124: rounds of one census. -/
def maxRounds : Nat := 4

/-- R143: bytes of one ROLL answer. -/
def rollCap : Nat := 12

/-- R121: unanswered commands in a row that make a module ABSENT. -/
def maxUnanswered : Nat := 3

/-- R29, R45: the guard and release counts saturate here. -/
def assessCountCap : Nat := 60

/-- R20: the critical count saturates here. -/
def critCountCap : Nat := 20

/-- 00_scope, Terms: C_mAs is the capacity in Ah times this. -/
def mAsPerAh : Nat := 3600000

/-- R185: the node ID is this plus the NODE strap. -/
def nodeBase : NodeId := 0x08

end Sys2Proof.Config
end

