-- ==== Sys2Proof/Syntax.lean ====
section
/-! DEFINITION. The commands of the VK48: one constructor of `Instr` for each row of spec/opcode_table.json,
with the operands the rows' rules read. -/

namespace Sys2Proof

/-- The two bus ports (07): the panel segment's and the load segment's. -/
inductive PortId where
  | panel
  | load
  deriving DecidableEq, Repr

/-- The four transmit queues (08). -/
inductive QueueId where
  | engine
  | loadForward
  | notice
  | panelForward
  deriving DecidableEq, Repr

/-- What a frame's header holds beside kind and target (R136). `spare` is the two bits above the source. -/
structure Head where
  prio   : BitVec 2
  long   : Bool
  spare  : BitVec 2
  source : NodeId
  deriving DecidableEq, Repr

/-- A cabin bus frame, less its check byte, which is computed from the rest (R135, R136). -/
structure Frame where
  head   : Head
  kind   : BitVec 6
  target : BitVec 7
  data   : List Byte
  deriving DecidableEq, Repr

/-- A frame that arrives on the load segment from another node, with the bytes that the Load Port reads in its answer
field: the roll that answers a CENSUS or an OPENSET (R145, log 40). A frame of another kind comes with none. -/
structure LoadArrival where
  frame : Frame
  roll  : List Byte
  deriving DecidableEq, Repr

/-- The operations and events of the part, one constructor a row of the table, in the table's order. `dt` is the
time in ms that has passed on the part's time base since the event before (log 1). `ans` is the bytes the Load Port
read in the answer field of the frame it sent, none of them when the answer window stayed empty. -/
inductive Instr where
  /-- HARDWARE_RESET (R184, R185): RESET# is released with these straps. -/
  | hardwareReset (dt : Nat) (node : BitVec 4) (fall : BitVec 3)
  /-- STORE_READ_END (R186, R187). -/
  | storeReadEnd (dt : Nat)
  /-- MANAGEMENT_RESET (R180, R187). -/
  | managementReset (dt : Nat)
  /-- PORT_ACTIVE_AFTER_RESET (R148): 11 recessive bit times on the port's segment. -/
  | portActiveAfterReset (dt : Nat) (port : PortId)
  /-- SYMBOL_VIOLATION (R146): `roll` is what had been read of the ROLL answer to the part's own attempt (R143). The
  bytes of a roll that answers another node come with that node's frame (log 40). -/
  | symbolViolation (dt : Nat) (port : PortId) (roll : List Byte)
  /-- DATA_OVERRUN (R134): the start bit of the 66th byte after a header. -/
  | dataOverrun (dt : Nat) (port : PortId)
  /-- BIT_ERROR (R137). -/
  | bitError (dt : Nat) (port : PortId)
  /-- ARBITRATION_LOST (R137): `winner` is the header that won. -/
  | arbitrationLost (dt : Nat) (port : PortId) (winner : BitVec 24)
  /-- SILENT_END (R146): 10 recessive bit times. -/
  | silentEnd (dt : Nat) (port : PortId)
  /-- PORT_FAULT_ENTRY (R147): the 257th dominant bit time. -/
  | portFaultEntry (dt : Nat) (port : PortId)
  /-- PORT_FAULT_END (R147): 11 recessive bit times. -/
  | portFaultEnd (dt : Nat) (port : PortId)
  /-- CHECK_BYTE_MISMATCH (R134, R135): the bytes read between start mark and data-end pause. -/
  | checkByteMismatch (dt : Nat) (port : PortId) (bytes : List Byte)
  /-- SAMPLE (R3): a SAMPLE frame arrives on the load segment. -/
  | sample (dt : Nat) (head : Head) (target : BitVec 7) (data : List Byte)
  /-- STALE_TIMER_EXPIRY (R5). -/
  | staleTimerExpiry (dt : Nat)
  /-- LOST_TIMER_EXPIRY (R6). -/
  | lostTimerExpiry (dt : Nat)
  /-- ASSESSMENT (R27). -/
  | assessment (dt : Nat)
  /-- REPORT (R52): a REPORT frame arrives on the load segment. -/
  | report (dt : Nat) (head : Head) (target : BitVec 7) (data : List Byte)
  /-- LOAD_FRAME_ARRIVAL (R145, R154): a frame of another kind arrives on the load segment, and its answer is
  collected. -/
  | loadFrameArrival (dt : Nat) (arrival : LoadArrival)
  /-- PANEL_FRAME_ARRIVAL (R152): a frame that is neither a channel's SWITCH nor the part's MGMT arrives on the
  panel segment. -/
  | panelFrameArrival (dt : Nat) (frame : Frame)
  /-- PANEL_SWITCH_OFF (R62). -/
  | panelSwitchOff (dt : Nat) (head : Head) (ch : Channel)
  /-- PANEL_SWITCH_ON (R62). -/
  | panelSwitchOn (dt : Nat) (head : Head) (ch : Channel)
  /-- PANEL_SWITCH_LEVEL (R62), with its level byte. -/
  | panelSwitchLevel (dt : Nat) (head : Head) (ch : Channel) (level : Byte)
  /-- BOOST (R63), with its minutes byte. -/
  | boost (dt : Nat) (head : Head) (ch : Channel) (minutes : Byte)
  /-- SWITCH_MALFORMED (R61), with its data. -/
  | switchMalformed (dt : Nat) (head : Head) (ch : Channel) (data : List Byte)
  /-- BOOST_SWITCH_ON_DEADLINE (R65), of one override entry. -/
  | boostSwitchOnDeadline (dt : Nat) (entry : Fin 4)
  /-- OVERRIDE_EXPIRY (R66), of one override entry. -/
  | overrideExpiry (dt : Nat) (entry : Fin 4)
  /-- STOP_ASK_TIMEOUT (R82). -/
  | stopAskTimeout (dt : Nat) (ch : Channel)
  /-- WAIT_IDLE_TIMEOUT (R84). -/
  | waitIdleTimeout (dt : Nat) (ch : Channel)
  /-- HOLD_END (R85). -/
  | holdEnd (dt : Nat) (ch : Channel)
  /-- READY_TIME_REACHED (R103). -/
  | readyTimeReached (dt : Nat)
  /-- SPACING_TIMER_EXPIRY (R107). -/
  | spacingTimerExpiry (dt : Nat)
  /-- SILENCE_TIMER_EXPIRY (R120), of one module. -/
  | silenceTimerExpiry (dt : Nat) (node : NodeId)
  /-- RETRY_PAUSE_END (R160), of the head of one queue. -/
  | retryPauseEnd (dt : Nat) (queue : QueueId)
  /-- LOAD_PORT_SEND (R159). -/
  | loadPortSend (dt : Nat)
  /-- PANEL_PORT_SEND (R163). -/
  | panelPortSend (dt : Nat)
  /-- ATTEMPT_NO_ANSWER (R160): a first or second attempt of the Load Port ends unanswered. -/
  | attemptNoAnswer (dt : Nat)
  /-- FRAME_SENT (R161, R163). -/
  | frameSent (dt : Nat) (port : PortId)
  /-- TERMINAL_OUTCOME (R88). -/
  | terminalOutcome (dt : Nat) (ans : List Byte)
  /-- STOPREQ_OUTCOME (R82). -/
  | stopreqOutcome (dt : Nat) (ans : List Byte)
  /-- RESTORE_OUTCOME (R107). -/
  | restoreOutcome (dt : Nat) (ans : List Byte)
  /-- RESUME_OUTCOME (R59). -/
  | resumeOutcome (dt : Nat) (ans : List Byte)
  /-- BOOST_SWITCH_ON_OUTCOME (R65). -/
  | boostSwitchOnOutcome (dt : Nat) (ans : List Byte)
  /-- RESEND_OUTCOME (R67). -/
  | resendOutcome (dt : Nat) (ans : List Byte)
  /-- CENSUS_ROUND_END (R124). -/
  | censusRoundEnd (dt : Nat) (ans : List Byte)
  /-- OPENSET_END (R129). -/
  | opensetEnd (dt : Nat) (ans : List Byte)
  /-- FORWARDED_OUTCOME (R162). -/
  | forwardedOutcome (dt : Nat) (ans : List Byte)
  /-- STORE_WRITE_END (R175): `good` says that the check word read back matches. -/
  | storeWriteEnd (dt : Nat) (good : Bool)
  /-- LOAD (R170), with the bytes after its command code. -/
  | load (dt : Nat) (head : Head) (args : List Byte)
  /-- COMMIT (R173). -/
  | commit (dt : Nat) (head : Head) (args : List Byte)
  /-- DISCARD (R176). -/
  | discard (dt : Nat) (head : Head) (args : List Byte)
  /-- READ (R177). -/
  | read (dt : Nat) (head : Head) (args : List Byte)
  /-- STATUS (R178). -/
  | status (dt : Nat) (head : Head) (args : List Byte)
  /-- CHANNEL (R178). -/
  | channel (dt : Nat) (head : Head) (args : List Byte)
  /-- LIMITS (R172). -/
  | limits (dt : Nat) (head : Head) (args : List Byte)
  /-- SET_RESERVE (R22, R179). -/
  | setReserve (dt : Nat) (head : Head) (args : List Byte)
  /-- CENSUS (R179). -/
  | census (dt : Nat) (head : Head) (args : List Byte)
  /-- RELEASE (R70, R179). -/
  | release (dt : Nat) (head : Head) (args : List Byte)
  /-- RETAIN (R71, R179). -/
  | retain (dt : Nat) (head : Head) (args : List Byte)
  /-- RESTART (R180). -/
  | restart (dt : Nat) (head : Head) (args : List Byte)
  /-- MGMT_BAD_REQUEST (R169): a management frame with this data. -/
  | mgmtBadRequest (dt : Nat) (head : Head) (data : List Byte)
  deriving DecidableEq, Repr

end Sys2Proof
end

