-- ==== Sys2Proof/Decode.lean ====
section
/-! DEFINITION. The commands that words spell. The VK48 is a block, not a processor: no row of
spec/opcode_table.json gives its command any bits, so no word spells a command. -/

namespace Sys2Proof

/-- The command a word of `nbits` bits spells by the table: none, since the table gives no row bits. -/
def decodeTableWord (_nbits _w : Nat) : Option Instr := none

end Sys2Proof
end

