-- ==== Sys2Proof/Machine/Framing.lean ====
section
/-! DEFINITION. Cabin bus framing (07): check bytes, headers, frame kinds, channel and node sets, two-byte
fields, and the frame as the bytes that travel between start mark and data-end pause. -/

namespace Sys2Proof

/-! ## Two-byte fields (R149) -/

/-- The byte of weight 1 of a number. -/
def byteOf (n : Nat) : Byte := BitVec.ofNat 8 n

/-- A two-byte field, more significant byte first (R149). -/
def be16 (n : Nat) : List Byte := [byteOf (n / 256), byteOf n]

/-- Reading a two-byte field (R149). -/
def ofBe16 (hi lo : Byte) : Nat := hi.toNat * 256 + lo.toNat

/-- A signed 16-bit value, two's complement (R149). -/
def be16s (i : Int) : List Byte := be16 (BitVec.ofInt 16 i).toNat

/-- Reading a signed two-byte field (R149). -/
def ofBe16s (hi lo : Byte) : Int := (hi ++ lo).toInt

/-! ## Check bytes (R135, R181) -/

/-- One step of a CRC register of width `w`: shifted left, and XORed with the polynomial when its most significant
bit was 1 (R135, R181). -/
def crcStep {w : Nat} (poly r : BitVec w) : BitVec w :=
  if r.msb then (r <<< 1) ^^^ poly else r <<< 1

/-- Eight steps of a CRC register (R135, R181). -/
def crcStep8 {w : Nat} (poly r : BitVec w) : BitVec w :=
  crcStep poly (crcStep poly (crcStep poly (crcStep poly
    (crcStep poly (crcStep poly (crcStep poly (crcStep poly r)))))))

/-- The check byte of a list of bytes: CRC-8 with polynomial x^8 + x^2 + x + 1 from 0xFF (R135). -/
def crc8 (bytes : List Byte) : Byte :=
  bytes.foldl (fun r b => crcStep8 0x07 (r ^^^ b)) 0xFF

/-- The check word of the setting store: CRC-16 with polynomial x^16 + x^12 + x^5 + 1 from 0xFFFF, each byte XORed
into the upper eight bits (R181). -/
def crc16 (bytes : List Byte) : BitVec 16 :=
  bytes.foldl (fun r b => crcStep8 0x1021 (r ^^^ (b ++ (0 : BitVec 8)))) 0xFFFF

/-! ## Frame kinds (R139, table of 7.4) -/

def kindSwitch  : BitVec 6 := 0x01
def kindStopreq : BitVec 6 := 0x02
def kindOpenset : BitVec 6 := 0x03
def kindCensus  : BitVec 6 := 0x04
def kindReport  : BitVec 6 := 0x10
def kindSample  : BitVec 6 := 0x11
def kindNotice  : BitVec 6 := 0x20
def kindMgmt    : BitVec 6 := 0x30

/-- The answer field a frame kind carries; `none` also for a kind the part does not know (R139, R161). -/
inductive AnswerKind where
  | verdict
  | roll
  | data
  | none
  deriving DecidableEq, Repr

/-- The answer kind of the table in 7.4 (R139). -/
def answerKind (k : BitVec 6) : AnswerKind :=
  if k = kindSwitch ∨ k = kindStopreq then .verdict
  else if k = kindOpenset ∨ k = kindCensus then .roll
  else if k = kindMgmt then .data
  else .none

/-! ## Targets (R136) -/

/-- The broadcast target. -/
def broadcast : BitVec 7 := 0x7F

/-- The target that names a node. -/
def nodeTarget (n : NodeId) : BitVec 7 := n.zeroExtend 7

/-- The channel address 0x40 + c of channel c. -/
def channelTarget (c : Channel) : BitVec 7 := BitVec.ofNat 7 (0x40 + c.val)

/-- The classes of targets (R136). -/
inductive TargetClass where
  | node (n : NodeId)
  | channel (c : Channel)
  | broadcast
  | unassigned
  deriving DecidableEq, Repr

/-- The class of a target: 0x00..0x3F a node, 0x40..0x6F a channel, 0x7F broadcast, 0x70..0x7E neither (R136). -/
def targetClass (t : BitVec 7) : TargetClass :=
  if t.toNat < 0x40 then .node (t.truncate 6)
  else if h : t.toNat - 0x40 < 48 then .channel ⟨t.toNat - 0x40, h⟩
  else if t.toNat = 0x7F then .broadcast
  else .unassigned

/-! ## Frames as bytes (R134, R136) -/

/-- The three header bytes (7.8, Frame header). -/
def Frame.headerBytes (f : Frame) : List Byte :=
  [f.head.prio ++ f.kind, BitVec.ofBool f.head.long ++ f.target, f.head.spare ++ f.head.source]

/-- The header as one number, as arbitration compares it: the lower one wins (R137). -/
def Frame.headerWord (f : Frame) : BitVec 24 :=
  (f.head.prio ++ f.kind) ++ (BitVec.ofBool f.head.long ++ f.target) ++ (f.head.spare ++ f.head.source)

/-- The bytes of a frame between start mark and data-end pause, check byte last (R134, R135). -/
def Frame.toBytes (f : Frame) : List Byte :=
  f.headerBytes ++ f.data ++ [crc8 (f.headerBytes ++ f.data)]

/-- The data limit of the long mark: 64 data bytes with it, 8 without (R134). -/
def dataLimit (long : Bool) : Nat := if long then 64 else 8

/-- The frame's data is within its long mark's limit (R134). -/
def Frame.fits (f : Frame) : Bool := f.data.length ≤ dataLimit f.head.long

/-- A frame read from its header bytes and data (R136). -/
def Frame.ofHeader (h0 h1 h2 : Byte) (data : List Byte) : Frame :=
  { head :=
      { prio := h0.extractLsb' 6 2, long := h1.msb, spare := h2.extractLsb' 6 2, source := h2.extractLsb' 0 6 }
    kind := h0.extractLsb' 0 6, target := h1.extractLsb' 0 7, data := data }

/-- What a receiving port makes of the bytes before a data-end pause: a frame when there are at least four, the
check byte is good and the data is within the limit; otherwise the frame is dropped (R134, R135). -/
def Frame.ofBytes : List Byte → Option Frame
  | h0 :: h1 :: h2 :: rest =>
    match rest.getLast? with
    | none => none
    | some check =>
      let f := Frame.ofHeader h0 h1 h2 rest.dropLast
      if f.fits && crc8 (h0 :: h1 :: h2 :: rest.dropLast) == check then some f else none
  | _ => none

/-! ## Sets (R149) -/

/-- Byte `i` of a set: member m is the bit of weight 2^(7 - m mod 8) in byte m div 8 (R149). -/
def setByte (mem : Nat → Bool) (i : Nat) : Byte :=
  (List.range 8).foldl (fun b j => (b <<< 1) ||| (if mem (8 * i + j) then 1 else 0)) 0

/-- A channel set: 6 bytes (R149). -/
def channelSet (cs : List Channel) : List Byte :=
  (List.range 6).map (setByte (fun m => cs.any (fun c => c.val == m)))

/-- A node set: 8 bytes (R149). -/
def nodeSet (ns : List NodeId) : List Byte :=
  (List.range 8).map (setByte (fun m => ns.any (fun n => n.toNat == m)))

end Sys2Proof
end

