-- ==== Sys2Proof/Machine/Types.lean ====
section
/-! DEFINITION. The data each unit of the part keeps, as plain records. Names and ranges are those of the tables
of state in spec/01..09; a field that "may be absent" is an Option. -/

namespace Sys2Proof.Machine

/-! ## The four tables (09, layouts in 07 section 7.8) -/

/-- The step kinds of a shed programme (R78). -/
inductive StepKind where
  | none
  | stopAsk
  | waitIdle
  | hold
  | skipIfIdle
  | skipIfRunning
  | openOut
  | dim
  deriving DecidableEq, Repr

/-- One step slot: a kind and an argument in seconds (R78). -/
structure StepSlot where
  kind : StepKind
  arg  : Nat
  deriving DecidableEq, Repr

/-- A programme: the four step slots of a channel (R78). -/
abbrev Programme := Vector StepSlot 4

/-- The SETTINGS record: the value of each numbered field (R171), and the bytes that have no field (R150). -/
structure Settings where
  val    : Vector Nat 24
  byte19 : Byte
  spare  : Vector Byte 8
  deriving DecidableEq, Repr

/-- A BANDS record: depth, ending state of charge, and the three unread bits between them (R28, R150). -/
structure Band where
  depth  : Nat
  spare  : BitVec 3
  ending : Nat
  deriving DecidableEq, Repr

/-- A CHANNELS record (03 section 3.1). -/
structure ChannelCfg where
  tier     : Nat
  steps    : Programme
  dim      : Nat
  minOff   : Nat
  idle     : Nat
  boostOk  : Bool
  protect  : Bool
  boostMax : Nat
  deriving DecidableEq, Repr

/-- A ROSTER record: a node ID and an ending channel (06 section 6.1). -/
structure RosterEntry where
  node   : NodeId
  ending : Nat
  deriving DecidableEq, Repr

/-- One copy of the four tables (R168). -/
structure Tables where
  settings : Settings
  bands    : Vector Band 8
  channels : Vector ChannelCfg 48
  roster   : Vector RosterEntry 12
  deriving DecidableEq, Repr

/-! ## Reserve Unit (01 section 1.1) -/

/-- Freshness of the monitor's samples (R4..R6). -/
inductive MonitorState where
  | awaiting
  | fresh
  | stale
  | lost
  deriving DecidableEq, Repr

/-- The state of the Reserve Unit. Timers are held as the time at which they expire. -/
structure ReserveUnit where
  reserve     : Nat
  residue     : Int
  valid       : Bool
  vf          : Nat
  cur         : Int
  seed        : Bool
  lastSeq     : Option Byte
  lastArrival : Option Nat
  monitor     : MonitorState
  staleAt     : Option Nat
  lostAt      : Option Nat
  critCount   : Nat
  fullHold    : Nat
  runtime     : Option Nat
  deriving DecidableEq, Repr

/-! ## Assessment Unit (02 section 2.1) -/

/-- A guard (R29, R31). -/
inductive Guard where
  | released
  | active
  deriving DecidableEq, Repr

/-- The cause a change of the applied depth carries (R46). -/
inductive Cause where
  | band
  | guard
  | runtime
  | lost
  | critical
  | restore
  deriving DecidableEq, Repr

/-- The state of the Assessment Unit. -/
structure AssessUnit where
  timerAt      : Nat
  number       : Nat
  depth        : Nat
  vGuard       : Guard
  vGuardCount  : Nat
  rGuard       : Guard
  critical     : Bool
  releaseCount : Nat
  holdCount    : Nat
  unsettled    : Bool
  escalation   : Nat
  restore      : Nat
  fallback     : Nat
  deriving DecidableEq, Repr

/-! ## Channel Table (03 section 3.2) -/

/-- Where a channel stands (03 section 3.2). -/
inductive ChanState where
  | unknown
  | live
  | shedding
  | shed
  | barred
  | restoring
  | overridden
  | released
  deriving DecidableEq, Repr

/-- The user's latest wish (R50). -/
inductive Intent where
  | off
  | on
  | level (n : Nat)
  deriving DecidableEq, Repr

/-- Appliance status of a REPORT (07 section 7.8, Codes). -/
inductive Appliance where
  | none
  | running
  | stopped
  | fault
  deriving DecidableEq, Repr

/-- The terminal command last queued for a channel (03 section 3.2, Shed terminal). -/
inductive Terminal where
  | openOut
  | dim (n : Nat)
  deriving DecidableEq, Repr

/-- The state record of one channel. -/
structure ChanRec where
  state       : ChanState
  intent      : Option Intent
  level       : Option Nat
  current     : Option Nat
  status      : Option Appliance
  confirmed   : Bool
  managed     : Bool
  offSince    : Option Nat
  unreachable : Bool
  terminal    : Option Terminal
  inFlight    : Bool
  resend      : Bool
  deriving DecidableEq, Repr

/-- A held entry of the override table. The on-pending mark is set exactly while the switch-on deadline is
present, so one field holds both (03 section 3.2). -/
structure Override where
  ch       : Channel
  expiry   : Nat
  deadline : Option Nat
  deriving DecidableEq, Repr

/-! ## Programme Runner (R80) -/

/-- The command of a context whose outcome the current step is waiting for (R80). -/
inductive Awaited where
  | none
  | stopreq
  | terminal
  | opening
  deriving DecidableEq, Repr

/-- A programme context (R80). `id` is the model's own: it ties a command to the context that queued it
(R81, R90, log 27). -/
structure Context where
  id          : Nat
  prog        : Programme
  index       : Nat
  deadline    : Option Nat
  requestSent : Bool
  awaited     : Awaited
  deriving DecidableEq, Repr

/-! ## Restore Sequencer (05 section 5.2) -/

/-- Whether a pick may be made (05 section 5.2). -/
inductive SeqState where
  | idle
  | inFlight
  | spacing
  deriving DecidableEq, Repr

/-- The Restore Sequencer; the head of `list` is the newest entry (R98). -/
structure Sequencer where
  list      : List Channel
  state     : SeqState
  restoring : Option Channel
  spacingAt : Option Nat
  deriving DecidableEq, Repr

/-! ## Roster Unit (06) -/

/-- What the part believes of a module (06 section 6.2). -/
inductive Presence where
  | expected
  | present
  | silent
  | absent
  deriving DecidableEq, Repr

/-- The presence record of a listed module. -/
structure PresenceRec where
  node       : NodeId
  state      : Presence
  unanswered : Nat
  silenceAt  : Option Nat
  deriving DecidableEq, Repr

/-- The census state (06 section 6.3). -/
inductive CensusState where
  | idle
  | pending
  | running
  deriving DecidableEq, Repr

/-- The group opening state (06 section 6.4). -/
inductive OpeningState where
  | idle
  | pending
  | sent
  deriving DecidableEq, Repr

/-- The Roster Unit. Sets are lists without repeats; `owners` holds the owning module of each member, taken when
the OPENSET was queued (R127). -/
structure RosterUnit where
  presence   : List PresenceRec
  census     : CensusState
  round      : Nat
  answered   : List NodeId
  unlisted   : Bool
  opening    : OpeningState
  openingSet : List Channel
  owners     : List (Channel × Option NodeId)
  further    : List Channel
  deriving DecidableEq, Repr

/-! ## Ports and queues (07 section 7.6, 08) -/

/-- A port state (R145..R147). -/
inductive PortState where
  | active
  | silent
  | fault
  deriving DecidableEq, Repr

/-- The receive position of a port (07 section 7.6). -/
inductive RxPos where
  | waiting
  | headerData
  | dataEnd
  | answerField
  | frameEnd
  deriving DecidableEq, Repr

/-- What both ports hold. `startUp`: SILENT after a reset, where ACTIVE takes 11 recessive bit times (R148). -/
structure PortCore where
  state    : PortState
  startUp  : Bool
  position : RxPos
  deriving DecidableEq, Repr

/-- A command the part sends on the load segment (R139, table of 7.4). -/
inductive EngBody where
  | switchOff (c : Channel)
  | switchOn (c : Channel)
  | switchLevel (c : Channel) (n : Nat)
  | stopreq (c : Channel)
  | openset
  | census (ids : List NodeId)
  deriving DecidableEq, Repr

/-- The requester of an engine frame and what it asked it for (R156). `ctx` names the context (R81). -/
inductive Purpose where
  | terminal (ctx : Nat)
  | stopreq (ctx : Nat)
  | restore
  | resume
  | boostOn
  | resend
  | census
  | openset
  deriving DecidableEq, Repr

/-- An engine-queue entry (R156). `attempts` counts the attempts that have ended; `leaving` is the model's own: set
while the outcome is handed over, before the slot is granted (R160, log 9). -/
structure EngEntry where
  body     : EngBody
  purpose  : Purpose
  tie      : Option NodeId
  attempts : Nat
  pauseEnd : Option Nat
  leaving  : Bool
  deriving DecidableEq, Repr

/-- A channel command awaiting an engine-queue slot (R157). -/
structure Request where
  body    : EngBody
  purpose : Purpose
  deriving DecidableEq, Repr

/-- An entry of a forward queue (R155, R163); the panel forward queue ties no frame. -/
structure FwdEntry where
  frame    : Frame
  tie      : Option NodeId
  attempts : Nat
  pauseEnd : Option Nat
  deriving DecidableEq, Repr

/-- The queue of the Load Port whose head frame is on the bus (R159). -/
inductive LoadQ where
  | engine
  | forward
  deriving DecidableEq, Repr

/-- The Load Port. -/
structure LoadPort where
  port         : PortCore
  sending      : Option LoadQ
  forward      : List FwdEntry
  engine       : List EngEntry
  awaitOpenset : Bool
  awaitCensus  : Bool
  awaiting     : List Request
  engineCount  : Nat
  deriving DecidableEq, Repr

/-- What a notice reports (R182). -/
inductive NoticeBody where
  | depth (d : Nat) (cause : Cause)
  | channel (c : Channel) (st : ChanState)
  | monitor (m : MonitorState)
  | module (n : NodeId) (p : Presence)
  | commit (result : Nat)
  deriving DecidableEq, Repr

/-- A notice in the notice queue: its content, the lost-before bit and the assessment number modulo 256 (R164, R182). -/
structure NoticeEntry where
  body     : NoticeBody
  lost     : Bool
  number   : Nat
  attempts : Nat
  pauseEnd : Option Nat
  deriving DecidableEq, Repr

/-- The queue of the Panel Port whose head frame is on the bus (R163). -/
inductive PanelQ where
  | notice
  | forward
  deriving DecidableEq, Repr

/-- What the part gives in the answer field of a panel frame (R142, R144). -/
inductive Answer where
  | none
  | verdict (b : Byte)
  | data (bytes : List Byte)
  deriving DecidableEq, Repr

/-- The Panel Port. `answer` is what it gave to the latest panel frame. -/
structure PanelPort where
  port     : PortCore
  sending  : Option PanelQ
  notices  : List NoticeEntry
  forward  : List FwdEntry
  overflow : Bool
  answer   : Answer
  deriving DecidableEq, Repr

/-! ## Management Unit (09) -/

/-- The commit state (09 section 9.4). -/
inductive CommitState where
  | idle
  | pending
  | writing
  deriving DecidableEq, Repr

/-- A copy in the setting store: 1000 bytes and their check word (R181). -/
structure StoreCopy where
  image : List Byte
  check : BitVec 16
  deriving DecidableEq, Repr

/-- The Management Unit. `store` is `none` while the store holds no copy that a write has completed (R181, log 6). -/
structure MgmtUnit where
  active       : Tables
  shadow       : Tables
  commit       : CommitState
  store        : Option StoreCopy
  reading      : Bool
  restartArmed : Bool
  deriving DecidableEq, Repr

/-- The five alert conditions (R188). -/
structure Alerts where
  critical     : Bool
  monitorLost  : Bool
  moduleAbsent : Bool
  portFault    : Bool
  defaults     : Bool
  deriving DecidableEq, Repr

end Sys2Proof.Machine
end

