-- ==== Sys2Proof/Machine/Tables.lean ====
section
/-! DEFINITION. The four tables: field ranges and built-in defaults (R171), record layouts (07 section 7.8),
clamping at LOAD (R150, R171), the ending-boundary decode shared by BANDS and ROSTER (R28, R116), and the checks of
COMMIT on a copy of the tables (R79, R117, R173). -/

namespace Sys2Proof.Machine

/-- A byte of a list, 0 past its end. -/
def byteAt (bs : List Byte) (i : Nat) : Byte := bs.getD i 0

/-- The two-byte field at an offset (R149). -/
def wordAt (bs : List Byte) (i : Nat) : Nat := ofBe16 (byteAt bs i) (byteAt bs (i + 1))

/-- A value clamped to a range (00_scope, Clamping). -/
def clampNat (lo hi v : Nat) : Nat := max lo (min v hi)

/-! ## SETTINGS -/

/-- A row of the SETTINGS table: where its bytes lie (07 section 7.8), its range and its default (R171). -/
structure FieldRow where
  offset : Nat
  width  : Nat
  lo     : Nat
  hi     : Nat
  dflt   : Nat
  deriving DecidableEq, Repr

/-- The SETTINGS fields 0..23 (R171 and the SETTINGS record of 7.8). -/
def settingsRows : Vector FieldRow 24 := #v[
  ⟨0, 2, 1, 1000, 100⟩,          -- 0 capacity C, Ah
  ⟨2, 2, 900, 1000, 990⟩,        -- 1 charge acceptance A
  ⟨4, 2, 0, 2000, 50⟩,           -- 2 Rint, 0.1 mΩ
  ⟨6, 1, 0, 6, 3⟩,               -- 3 kv
  ⟨7, 1, 0, 8, 4⟩,               -- 4 ki
  ⟨8, 2, 0, 500, 100⟩,           -- 5 floor F
  ⟨10, 1, 0, 200, 50⟩,           -- 6 hysteresis
  ⟨11, 2, 9000, 30000, 12000⟩,   -- 7 V_guard
  ⟨13, 1, 0, 7, 4⟩,              -- 8 guard depth
  ⟨14, 1, 1, 60, 5⟩,             -- 9 guard debounce
  ⟨15, 2, 0, 2000, 300⟩,         -- 10 guard margin
  ⟨17, 2, 8000, 30000, 11200⟩,   -- 11 V_critical
  ⟨20, 1, 1, 20, 5⟩,             -- 12 critical debounce
  ⟨21, 2, 0, 2000, 400⟩,         -- 13 critical margin
  ⟨23, 1, 1, 60, 10⟩,            -- 14 critical release
  ⟨24, 2, 0, 600, 0⟩,            -- 15 runtime threshold, min
  ⟨26, 1, 0, 7, 0⟩,              -- 16 runtime depth
  ⟨27, 2, 0, 600, 10⟩,           -- 17 runtime margin, min
  ⟨29, 2, 10, 600, 60⟩,          -- 18 restore hold
  ⟨31, 2, 100, 10000, 2000⟩,     -- 19 restore spacing, ms
  ⟨33, 2, 0, 30000, 14200⟩,      -- 20 V_full (0 or 12000..30000)
  ⟨35, 2, 0, 1000, 300⟩,         -- 21 tail current, 10 mA
  ⟨37, 2, 10, 600, 120⟩,         -- 22 full hold
  ⟨39, 1, 0, 63, 0x18⟩]          -- 23 monitor node

namespace Settings

def capacity         (t : Settings) : Nat := t.val[0]
def acceptance       (t : Settings) : Nat := t.val[1]
def rint             (t : Settings) : Nat := t.val[2]
def kv               (t : Settings) : Nat := t.val[3]
def ki               (t : Settings) : Nat := t.val[4]
def floor            (t : Settings) : Nat := t.val[5]
def hysteresis       (t : Settings) : Nat := t.val[6]
def vGuard           (t : Settings) : Nat := t.val[7]
def guardDepth       (t : Settings) : Nat := t.val[8]
def guardDebounce    (t : Settings) : Nat := t.val[9]
def guardMargin      (t : Settings) : Nat := t.val[10]
def vCritical        (t : Settings) : Nat := t.val[11]
def critDebounce     (t : Settings) : Nat := t.val[12]
def critMargin       (t : Settings) : Nat := t.val[13]
def critRelease      (t : Settings) : Nat := t.val[14]
def runtimeThreshold (t : Settings) : Nat := t.val[15]
def runtimeDepth     (t : Settings) : Nat := t.val[16]
def runtimeMargin    (t : Settings) : Nat := t.val[17]
def restoreHold      (t : Settings) : Nat := t.val[18]
def restoreSpacing   (t : Settings) : Nat := t.val[19]
def vFull            (t : Settings) : Nat := t.val[20]
def tail             (t : Settings) : Nat := t.val[21]
def fullHold         (t : Settings) : Nat := t.val[22]
def monitorNode      (t : Settings) : Nat := t.val[23]

end Settings

/-- C_mAs: the capacity in mA·s (00_scope, Terms). -/
def Settings.cMas (t : Settings) : Nat := t.capacity * Config.mAsPerAh

/-- The bytes of one SETTINGS field. -/
def FieldRow.encode (r : FieldRow) (v : Nat) : List Byte := if r.width = 1 then [byteOf v] else be16 v

/-- The value of one SETTINGS field in a record's bytes. -/
def FieldRow.decode (r : FieldRow) (bs : List Byte) : Nat :=
  if r.width = 1 then (byteAt bs r.offset).toNat else wordAt bs r.offset

/-- The bytes of fields `lo .. lo + n - 1` of a SETTINGS record, end to end. -/
def Settings.fieldBytes (t : Settings) (lo n : Nat) : List Byte :=
  ((settingsRows.toList.zip t.val.toList).drop lo).take n |>.flatMap fun p => p.1.encode p.2

/-- The 48 bytes of a SETTINGS record (07 section 7.8): byte 19 and bytes 40..47 have no field. -/
def Settings.encode (t : Settings) : List Byte :=
  t.fieldBytes 0 12 ++ [t.byte19] ++ t.fieldBytes 12 12 ++ t.spare.toList

/-- A SETTINGS record read from its bytes, unclamped. -/
def Settings.ofBytes (bs : List Byte) : Settings :=
  { val := settingsRows.map (fun r => r.decode bs)
    byte19 := byteAt bs 19
    spare := Vector.ofFn fun i : Fin 8 => byteAt bs (40 + i.val) }

/-- V_full is 0 or 12000..30000; a value between goes to the nearer limit, 6000 to 12000 (R171). -/
def clampVFull (v : Nat) : Nat :=
  if v < 6000 then 0 else if v < 12000 then 12000 else min v 30000

/-- Each numbered field clamped to its range (R171). -/
def Settings.clamp (t : Settings) : Settings :=
  { t with val := Vector.ofFn fun i : Fin 24 =>
      if i.val = 20 then clampVFull t.val[i] else clampNat settingsRows[i].lo settingsRows[i].hi t.val[i] }

/-- LOAD of one SETTINGS record: what is stored, and whether any field was clamped (R170, R171). -/
def Settings.load (bs : List Byte) : Settings × Bool :=
  let t := Settings.ofBytes bs
  (t.clamp, decide (t.clamp ≠ t))

/-- The built-in default SETTINGS (R171); byte 19 and bytes 40..47, for which R171 gives no default, are 0 (DESIGN
CHOICE, log 42). -/
def Settings.default : Settings :=
  { val := settingsRows.map FieldRow.dflt, byte19 := 0, spare := Vector.replicate 8 0 }

/-! ## BANDS -/

/-- The two bytes of a BANDS record: bits 15..13 depth, 12..10 unread, 9..0 ending (07 section 7.8). The unread bits are
those stored, in a READ answer too (R171; DESIGN CHOICE, log 47). -/
def Band.encode (b : Band) : List Byte :=
  be16 ((BitVec.ofNat 3 b.depth ++ b.spare ++ BitVec.ofNat 10 b.ending).toNat)

/-- A BANDS record read from its bytes, unclamped. -/
def Band.ofBytes (bs : List Byte) : Band :=
  let w : BitVec 16 := byteAt bs 0 ++ byteAt bs 1
  { depth := (w.extractLsb' 13 3).toNat, spare := w.extractLsb' 10 3, ending := (w.extractLsb' 0 10).toNat }

/-- LOAD of one BANDS record: an ending above 1000 is clamped (R150, R171). -/
def Band.load (bs : List Byte) : Band × Bool :=
  let b := Band.ofBytes bs
  ({ b with ending := min b.ending 1000 }, decide (1000 < b.ending))

/-! ## CHANNELS -/

/-- The step-kind code (07 section 7.8, Codes). -/
def StepKind.code : StepKind → Nat
  | .none => 0
  | .stopAsk => 1
  | .waitIdle => 2
  | .hold => 3
  | .skipIfIdle => 4
  | .skipIfRunning => 5
  | .openOut => 6
  | .dim => 7

/-- The step kind of a code; a code above 7 is stored as NONE (R150). -/
def StepKind.ofCode : Nat → StepKind
  | 1 => .stopAsk
  | 2 => .waitIdle
  | 3 => .hold
  | 4 => .skipIfIdle
  | 5 => .skipIfRunning
  | 6 => .openOut
  | 7 => .dim
  | _ => .none

/-- The argument is read for STOP_ASK, WAIT_IDLE and HOLD (R78). -/
def StepKind.timed : StepKind → Bool
  | .stopAsk | .waitIdle | .hold => true
  | _ => false

/-- OPEN and DIM are the terminal steps (R78). -/
def StepKind.isTerminal : StepKind → Bool
  | .openOut | .dim => true
  | _ => false

/-- The skip steps (R86). -/
def StepKind.isSkip : StepKind → Bool
  | .skipIfIdle | .skipIfRunning => true
  | _ => false

/-- The three bytes of a step slot. -/
def StepSlot.encode (x : StepSlot) : List Byte := byteOf x.kind.code :: be16 x.arg

/-- The flag byte: bit 7 boost permitted, bit 6 protect in critical (07 section 7.8). -/
def ChannelCfg.flags (c : ChannelCfg) : Nat := (if c.boostOk then 0x80 else 0) + (if c.protect then 0x40 else 0)

/-- The 19 bytes of a CHANNELS record (07 section 7.8). -/
def ChannelCfg.encode (c : ChannelCfg) : List Byte :=
  [byteOf c.tier] ++ c.steps.toList.flatMap StepSlot.encode ++ [byteOf c.dim] ++ be16 c.minOff
    ++ [byteOf c.idle, byteOf c.flags, byteOf c.boostMax]

/-- The step-kind code of slot k in a CHANNELS record's bytes. -/
def slotCode (bs : List Byte) (k : Nat) : Nat := (byteAt bs (1 + 3 * k)).toNat

/-- A CHANNELS record read from its bytes, unclamped; bits 5..0 of the flag byte are ignored (R171). -/
def ChannelCfg.ofBytes (bs : List Byte) : ChannelCfg :=
  { tier := (byteAt bs 0).toNat
    steps := Vector.ofFn fun k : Fin 4 =>
      { kind := StepKind.ofCode (slotCode bs k.val), arg := wordAt bs (2 + 3 * k.val) }
    dim := (byteAt bs 13).toNat
    minOff := wordAt bs 14
    idle := (byteAt bs 16).toNat
    boostOk := (byteAt bs 17).getLsbD 7
    protect := (byteAt bs 17).getLsbD 6
    boostMax := (byteAt bs 18).toNat }

/-- A step argument is clamped to 1..600 when the stored kind is timed, and stored as given otherwise (R171). -/
def StepSlot.clamp (x : StepSlot) : StepSlot :=
  if x.kind.timed then { x with arg := clampNat 1 600 x.arg } else x

/-- Each field of a CHANNELS record clamped to its range (R171). -/
def ChannelCfg.clamp (c : ChannelCfg) : ChannelCfg :=
  { c with
    tier := clampNat 0 7 c.tier
    steps := c.steps.map StepSlot.clamp
    dim := clampNat 1 99 c.dim
    minOff := clampNat 0 3600 c.minOff
    idle := clampNat 0 250 c.idle
    boostMax := clampNat 1 240 c.boostMax }

/-- LOAD of one CHANNELS record; a step-kind code above 7 counts as clamped (R150, R171). -/
def ChannelCfg.load (bs : List Byte) : ChannelCfg × Bool :=
  let c := ChannelCfg.ofBytes bs
  (c.clamp, (List.range 4).any (fun k => 7 < slotCode bs k) || decide (c.clamp ≠ c))

/-- The built-in default programme: OPEN in slot 0, NONE after, arguments 0 (R171). -/
def defaultProgramme : Programme := #v[⟨.openOut, 0⟩, ⟨.none, 0⟩, ⟨.none, 0⟩, ⟨.none, 0⟩]

/-- The built-in default CHANNELS record (R171). -/
def ChannelCfg.default : ChannelCfg :=
  { tier := 7, steps := defaultProgramme, dim := 30, minOff := 0, idle := 0, boostOk := false, protect := false,
    boostMax := 60 }

/-! ## ROSTER -/

/-- The two bytes of a ROSTER record. -/
def RosterEntry.encode (e : RosterEntry) : List Byte := [e.node.zeroExtend 8, byteOf e.ending]

/-- A ROSTER record read from its bytes, its node ID clamped to 0x3F. -/
def RosterEntry.ofBytes (bs : List Byte) : RosterEntry :=
  { node := BitVec.ofNat 6 (min (byteAt bs 0).toNat 63), ending := (byteAt bs 1).toNat }

/-- LOAD of one ROSTER record (R171). -/
def RosterEntry.load (bs : List Byte) : RosterEntry × Bool :=
  let e := RosterEntry.ofBytes bs
  ({ e with ending := min e.ending 47 }, decide (63 < (byteAt bs 0).toNat ∨ 47 < e.ending))

/-! ## The tables as a whole -/

/-- The built-in defaults (R171); the unread bits of BANDS, for which R171 gives no default, are 0 (DESIGN CHOICE,
log 42). -/
def Tables.default : Tables :=
  { settings := Settings.default
    bands := #v[⟨7, 0, 100⟩, ⟨4, 0, 200⟩, ⟨0, 0, 0⟩, ⟨0, 0, 0⟩, ⟨0, 0, 0⟩, ⟨0, 0, 0⟩, ⟨0, 0, 0⟩, ⟨0, 0, 0⟩]
    channels := Vector.replicate 48 ChannelCfg.default
    roster := Vector.ofFn fun k : Fin 12 => { node := BitVec.ofNat 6 (0x20 + k.val), ending := 4 * k.val + 3 } }

/-- The 1000 bytes of the store image: SETTINGS, BANDS, CHANNELS, ROSTER (R181). -/
def Tables.encode (t : Tables) : List Byte :=
  t.settings.encode ++ t.bands.toList.flatMap Band.encode ++ t.channels.toList.flatMap ChannelCfg.encode
    ++ t.roster.toList.flatMap RosterEntry.encode

/-- The tables read from a store image (R181). -/
def Tables.ofBytes (bs : List Byte) : Tables :=
  { settings := Settings.ofBytes (bs.take 48)
    bands := Vector.ofFn fun i : Fin 8 => Band.ofBytes ((bs.drop (48 + 2 * i.val)).take 2)
    channels := Vector.ofFn fun i : Fin 48 => ChannelCfg.ofBytes ((bs.drop (64 + 19 * i.val)).take 19)
    roster := Vector.ofFn fun i : Fin 12 => RosterEntry.ofBytes ((bs.drop (976 + 2 * i.val)).take 2) }

/-- Every field lies within its range, as LOAD leaves it (R171). -/
def Tables.inRange (t : Tables) : Bool :=
  decide (t.settings.clamp = t.settings)
    && t.bands.toList.all (fun b => decide (b.depth ≤ 7 ∧ b.ending ≤ 1000))
    && t.channels.toList.all (fun c => decide (c.clamp = c) && c.steps.toList.all (fun x => decide (x.arg < 65536)))
    && t.roster.toList.all (fun e => decide (e.ending ≤ 47))

/-! ## The ending-boundary decode (R28, R116) -/

/-- An entry is non-empty when its ending is above every earlier ending; the first entry never is empty (R28). -/
def advances (hi : Option Nat) (e : Nat) : Bool :=
  match hi with
  | none => true
  | some h => h < e

/-- The highest ending so far. -/
def raise (hi : Option Nat) (e : Nat) : Option Nat :=
  match hi with
  | none => some e
  | some h => some (max h e)

/-- The first non-empty entry whose ending is at or above `x` (R28, R116). -/
def firstCover {α : Type} : Option Nat → List (Nat × α) → Nat → Option α
  | _, [], _ => none
  | hi, (e, a) :: rest, x =>
    if advances hi e && decide (x ≤ e) then some a else firstCover (raise hi e) rest x

/-- The non-empty entries with their indexes, in index order (R28, R116). -/
def nonEmptyFrom {α : Type} : Nat → Option Nat → List (Nat × α) → List (Nat × α)
  | _, _, [] => []
  | i, hi, (e, a) :: rest =>
    if advances hi e then (i, a) :: nonEmptyFrom (i + 1) (raise hi e) rest
    else nonEmptyFrom (i + 1) (raise hi e) rest

/-- The band lookup of a value 0..1000; 0 when no entry covers it (R28). -/
def Tables.band (t : Tables) (x : Nat) : Nat :=
  (firstCover none (t.bands.toList.map fun b => (b.ending, b.depth)) x).getD 0

/-- The owning module of a channel (R116). -/
def Tables.owner (t : Tables) (c : Channel) : Option NodeId :=
  firstCover none (t.roster.toList.map fun e => (e.ending, e.node)) c.val

/-- The non-empty band entries, index and depth (R28). -/
def Tables.usedBands (t : Tables) : List (Nat × Nat) :=
  nonEmptyFrom 0 none (t.bands.toList.map fun b => (b.ending, b.depth))

/-- The listed modules, index and node ID, in index order (R116). -/
def Tables.listed (t : Tables) : List (Nat × NodeId) :=
  nonEmptyFrom 0 none (t.roster.toList.map fun e => (e.ending, e.node))

/-- The roster node IDs (R116). -/
def Tables.rosterNodes (t : Tables) : List NodeId := t.listed.map Prod.snd

/-! ## Programmes (R78, R79) -/

/-- The slot of an index; past slot 3 the programme has ended. -/
def slotAt (p : Programme) (k : Nat) : StepSlot := p[k]?.getD ⟨.none, 0⟩

/-- The used slots: from slot 0 to the first NONE (R78). -/
def usedSlots (p : Programme) : List StepSlot := p.toList.takeWhile (fun x => x.kind != .none)

/-- The index of the first terminal step among the used slots, or past them when there is none. -/
def terminalIndex (p : Programme) : Nat := (usedSlots p).findIdx (fun x => x.kind.isTerminal)

/-- Combining rule 1: slot 0 is not NONE and nothing follows a NONE (R79). -/
def combining1 (p : Programme) : Bool :=
  !(usedSlots p).isEmpty && (p.toList.drop (usedSlots p).length).all (fun x => x.kind == .none)

/-- Combining rule 2: exactly one terminal step, in the last used slot (R79). -/
def combining2 (p : Programme) : Bool :=
  decide ((usedSlots p).countP (fun x => x.kind.isTerminal) = 1)
    && ((usedSlots p).getLast?.map (fun x => x.kind.isTerminal)).getD false

/-- Combining rule 3: no skip step directly before the terminal step (R79). -/
def combining3 (p : Programme) : Bool :=
  ((usedSlots p).zip (usedSlots p).tail).all (fun q => !(q.1.kind.isSkip && q.2.kind.isTerminal))

/-- Combining rule 4: at most one STOP_ASK among the used slots (R79). -/
def combining4 (p : Programme) : Bool :=
  decide ((usedSlots p).countP (fun x => x.kind == .stopAsk) ≤ 1)

/-- The lowest combining rule a programme breaks (R79). -/
def brokenCombining (p : Programme) : Option Nat :=
  if !combining1 p then some 1
  else if !combining2 p then some 2
  else if !combining3 p then some 3
  else if !combining4 p then some 4
  else none

/-! ## The checks of COMMIT (R173) -/

/-- Why a commit is INVALID: table code, record index, reason code (R173). -/
structure Invalid where
  table  : Nat
  record : Nat
  reason : Nat
  deriving DecidableEq, Repr

/-- The first entry whose depth exceeds the smallest depth before it. -/
def bandDisorderFrom : Nat → List (Nat × Nat) → Option Nat
  | _, [] => none
  | d, (i, e) :: rest => if d < e then some i else bandDisorderFrom (min d e) rest

/-- The lowest index of a non-empty band whose depth exceeds that of an earlier non-empty one (R173). -/
def bandDisorder : List (Nat × Nat) → Option Nat
  | [] => none
  | (_, d) :: rest => bandDisorderFrom d rest

/-- The higher index of the lowest-indexed pair of listed modules with one node ID (R117, log 26). -/
def duplicateNode : List (Nat × NodeId) → Option Nat
  | [] => none
  | (_, n) :: rest =>
    match rest.find? (fun p => p.2 == n) with
    | some p => some p.1
    | none => duplicateNode rest

/-- All channels in ascending order. -/
def allChannels : List Channel := List.finRange 48

/-- BANDS check, reason 5 (R173). -/
def Tables.checkBands (t : Tables) : Option Invalid :=
  (bandDisorder t.usedBands).map fun i => ⟨1, i, 5⟩

/-- CHANNELS check, reasons 1..4: records of tier 1 or more, lowest failing index first (R79, R173). -/
def Tables.checkProgrammes (t : Tables) : Option Invalid :=
  allChannels.findSome? fun c =>
    if 1 ≤ t.channels[c].tier then (brokenCombining t.channels[c].steps).map fun r => ⟨2, c.val, r⟩ else none

/-- ROSTER checks, reasons 6 and 7 (R117, R173). -/
def Tables.checkRoster (t : Tables) (own : NodeId) : Option Invalid :=
  match duplicateNode t.listed with
  | some i => some ⟨3, i, 6⟩
  | none => (t.listed.find? (fun p => p.2 == own)).map fun p => ⟨3, p.1, 7⟩

/-- Roster rule 3, reason 8: the lowest channel of tier 1 or more without an owning module (R117, R173). -/
def Tables.checkOwners (t : Tables) : Option Invalid :=
  (allChannels.find? fun c => decide (1 ≤ t.channels[c].tier) && (t.owner c).isNone).map fun c => ⟨2, c.val, 8⟩

/-- The first failure of a COMMIT, in the order BANDS, CHANNELS, ROSTER, roster rule 3 (R173). -/
def Tables.check (t : Tables) (own : NodeId) : Option Invalid :=
  t.checkBands <|> t.checkProgrammes <|> t.checkRoster own <|> t.checkOwners

end Sys2Proof.Machine
end

