-- ==== Sys2Proof/Machine/Part.lean ====
section
/-! DEFINITION. The VK48 as one record, every unit's state in it, and its values at the release of a hardware reset. -/

namespace Sys2Proof.Machine

/-- Everything the VK48 keeps (01..10). `ctxSerial` numbers programme contexts and is the model's own (log 27). -/
structure Part where
  now       : Nat
  nodeId    : NodeId
  reserve   : ReserveUnit
  assess    : AssessUnit
  chans     : Vector ChanRec 48
  overrides : Vector (Option Override) 4
  ctxs      : Vector (Option Context) 48
  ctxSerial : Nat
  seq       : Sequencer
  roster    : RosterUnit
  load      : LoadPort
  panel     : PanelPort
  mgmt      : MgmtUnit
  alerts    : Alerts
  deriving DecidableEq, Repr

/-- The Reserve Unit after a hardware reset released at `now` (R24). -/
def ReserveUnit.atRelease (now : Nat) : ReserveUnit :=
  { reserve := 0, residue := 0, valid := false, vf := 0, cur := 0, seed := true, lastSeq := none,
    lastArrival := none, monitor := .awaiting, staleAt := none, lostAt := some (now + Config.lostMs),
    critCount := 0, fullHold := 0, runtime := none }

/-- The Assessment Unit after a hardware reset released at `now` (R47). -/
def AssessUnit.atRelease (now fallback : Nat) : AssessUnit :=
  { timerAt := now + Config.assessMs, number := 0, depth := 0, vGuard := .released, vGuardCount := 0,
    rGuard := .released, critical := false, releaseCount := 0, holdCount := 0, unsettled := true,
    escalation := 0, restore := 0, fallback := fallback }

/-- A channel's state record after either reset (R77). -/
def ChanRec.atReset : ChanRec :=
  { state := .unknown, intent := none, level := none, current := none, status := none, confirmed := false,
    managed := true, offSince := none, unreachable := false, terminal := none, inFlight := false, resend := false }

/-- The Restore Sequencer after either reset (R115). -/
def Sequencer.atReset : Sequencer := { list := [], state := .idle, restoring := none, spacingAt := none }

/-- A presence record in EXPECTED (R130, R132). -/
def PresenceRec.expected (n : NodeId) : PresenceRec :=
  { node := n, state := .expected, unanswered := 0, silenceAt := none }

/-- The Roster Unit after either reset, from the roster of `t` (R132). The census is requested by the reset. -/
def RosterUnit.atReset (t : Tables) : RosterUnit :=
  { presence := t.rosterNodes.map PresenceRec.expected, census := .pending, round := 0, answered := [],
    unlisted := false, opening := .idle, openingSet := [], owners := [], further := [] }

/-- A port after either reset: SILENT, waiting for a start mark (R148). -/
def PortCore.atReset : PortCore := { state := .silent, startUp := true, position := .waiting }

/-- The Load Port after either reset (R148, R166). -/
def LoadPort.atReset : LoadPort :=
  { port := PortCore.atReset, sending := none, forward := [], engine := [], awaitOpenset := false,
    awaitCensus := false, awaiting := [], engineCount := 0 }

/-- The Panel Port after either reset (R148, R166). -/
def PanelPort.atReset : PanelPort :=
  { port := PortCore.atReset, sending := none, notices := [], forward := [], overflow := false, answer := .none }

/-- The Management Unit after a hardware reset: the store read has begun, and until it ends both copies hold the
built-in defaults (R183, R186). -/
def MgmtUnit.atRelease (store : Option StoreCopy) : MgmtUnit :=
  { active := Tables.default, shadow := Tables.default, commit := .idle, store := store, reading := true,
    restartArmed := false }

/-- No alert condition raised (R188). -/
def Alerts.clear : Alerts :=
  { critical := false, monitorLost := false, moduleAbsent := false, portFault := false, defaults := false }

/-- The part at the release of RESET#, with the straps sampled then (R184, R185) and the setting store kept. The
time base starts at 0 (log 4). -/
def Part.atRelease (node : BitVec 4) (fall : BitVec 3) (store : Option StoreCopy) : Part :=
  { now := 0
    nodeId := Config.nodeBase + node.zeroExtend 6
    reserve := ReserveUnit.atRelease 0
    assess := AssessUnit.atRelease 0 fall.toNat
    chans := Vector.replicate 48 ChanRec.atReset
    overrides := Vector.replicate 4 none
    ctxs := Vector.replicate 48 none
    ctxSerial := 0
    seq := Sequencer.atReset
    roster := RosterUnit.atReset Tables.default
    load := LoadPort.atReset
    panel := PanelPort.atReset
    mgmt := MgmtUnit.atRelease store
    alerts := Alerts.clear }

end Sys2Proof.Machine
end

