-- ==== Sys2Proof/Machine/Operands.lean ====
section
/-! DEFINITION. What the part reads from the bytes it is given: samples (R1), reports (R140), SWITCH actions (R50,
R61), verdicts (R142), rolls (R143), and the arguments of management frames (R169). -/

namespace Sys2Proof.Machine

/-! ## SAMPLE and REPORT data -/

/-- The fields of a SAMPLE: sequence, voltage in mV, current in 10 mA (R1). -/
structure SampleData where
  seq     : Byte
  voltage : Nat
  current : Int
  deriving DecidableEq, Repr

/-- A SAMPLE's data is exactly 5 bytes; otherwise it is not taken (R1). -/
def sampleData : List Byte → Option SampleData
  | [q, v1, v0, i1, i0] => some { seq := q, voltage := ofBe16 v1 v0, current := ofBe16s i1 i0 }
  | _ => none

/-- One channel entry of a REPORT, as read under R140. -/
structure ReportEntry where
  level   : Nat
  current : Nat
  status  : Appliance
  deriving DecidableEq, Repr

/-- An appliance status code; a code above 3 is read as NONE (R140). -/
def applianceOf (b : Byte) : Appliance :=
  if b = 1 then .running else if b = 2 then .stopped else if b = 3 then .fault else .none

/-- A channel entry; one whose level is above 100 is ignored as a whole, and a current of 251..254 is read as
255 (R140). -/
def reportEntry (level current status : Byte) : Option ReportEntry :=
  if 100 < level.toNat then none
  else some { level := level.toNat, current := if 250 < current.toNat then 255 else current.toNat,
              status := applianceOf status }

/-- The channel of a number; there is none above 47 (R52). -/
def channelOf (n : Nat) : Option Channel := if h : n < 48 then some ⟨n, h⟩ else none

/-- The entries of a REPORT, each with its channel: 7 bytes, a first channel within 0..47, an entry for a channel
above 47 ignored (R52, R140). -/
def reportEntries : List Byte → List (Channel × ReportEntry)
  | [c, l0, i0, s0, l1, i1, s1] =>
    match channelOf c.toNat with
    | none => []
    | some c0 =>
      ((reportEntry l0 i0 s0).map fun e => (c0, e)).toList
        ++ ((channelOf (c.toNat + 1)).bind fun c1 => (reportEntry l1 i1 s1).map fun e => (c1, e)).toList
  | _ => []

/-! ## SWITCH actions -/

/-- The intent a reported output level converts to (R50). -/
def Intent.ofLevel (n : Nat) : Intent := if n = 0 then .off else if 100 ≤ n then .on else .level n

/-- The action bytes of a SWITCH (07 section 7.8). -/
def actOff : Byte := 0x00
def actOn : Byte := 0x01
def actLevel : Byte := 0x02
def actBoost : Byte := 0x03

/-- A SWITCH whose action is none of the four, whose LEVEL lies outside 1..100, whose BOOST argument is 0, or whose
length does not fit its action is malformed (R61). -/
def switchMalformed : List Byte → Bool
  | [a] => !(a == actOff || a == actOn)
  | [a, n] => !((a == actLevel && decide (1 ≤ n.toNat ∧ n.toNat ≤ 100)) || (a == actBoost && n != 0))
  | _ => true

/-- The action of a SWITCH is BOOST, whatever its form (R61, R63). -/
def actionIsBoost : List Byte → Bool
  | a :: _ => a == actBoost
  | [] => false

/-! ## Answers on the load segment -/

/-- How the attempts of a part-originated channel command end (R90). -/
inductive CmdOutcome where
  | done
  | refused
  | noAnswer
  | withdrawn
  deriving DecidableEq, Repr

/-- The verdict in an answer field: DONE or REFUSED; any other byte, or none, is no answer at that attempt. Bytes
after the first are ignored (R142). -/
def verdictOf : List Byte → Option CmdOutcome
  | b :: _ => if b = 0x01 then some .done else if b = 0x02 then some .refused else none
  | [] => none

/-- The IDs of a ROLL answer, in the order received: the first 12 bytes, less those above 0x3F (R143). -/
def rollIds (ans : List Byte) : List NodeId :=
  ((ans.take Config.rollCap).filter fun b => decide (b.toNat ≤ 0x3F)).map fun b => b.truncate 6

/-! ## Management codes (07 section 7.8) -/

/-- Result codes. -/
def resOk : Byte := 0
def resClamped : Byte := 1
def resBusy : Byte := 2
def resBadRequest : Byte := 3
def resBadTable : Byte := 4
def resBadIndex : Byte := 5
def resInvalid : Byte := 6

/-- Verdict codes. -/
def verDone : Byte := 0x01
def verRefused : Byte := 0x02
def verPassed : Byte := 0x10
def verHeld : Byte := 0x11
def verBoosted : Byte := 0x12
def verBusy : Byte := 0x13

/-- The tables by their codes (07 section 7.8, Codes). -/
inductive TableId where
  | settings
  | bands
  | channels
  | roster
  deriving DecidableEq, Repr

/-- A table argument is 0..3 (R169, test 2). -/
def tableOf (b : Byte) : Option TableId :=
  if b = 0 then some .settings else if b = 1 then some .bands
  else if b = 2 then some .channels else if b = 3 then some .roster else none

/-- Records of a table (09 section 9.1). -/
def TableId.records : TableId → Nat
  | .settings => 1
  | .bands => 8
  | .channels => 48
  | .roster => 12

/-- Bytes of a record (09 section 9.1). -/
def TableId.size : TableId → Nat
  | .settings => 48
  | .bands => 2
  | .channels => 19
  | .roster => 2

/-- The numbered fields' minimum and maximum, as LIMITS answers them (R171, R172): V_full 0..30000, a step argument
1..600, the flags 0x00..0xC0. -/
def TableId.limits : TableId → List (Nat × Nat)
  | .settings => settingsRows.toList.map fun r => (r.lo, r.hi)
  | .bands => [(0, 7), (0, 1000)]
  | .channels => [(0, 7), (0, 7), (1, 600), (0, 7), (1, 600), (0, 7), (1, 600), (0, 7), (1, 600), (1, 99), (0, 3600),
      (0, 250), (0x00, 0xC0), (1, 240)]
  | .roster => [(0, 0x3F), (0, 47)]

end Sys2Proof.Machine
end

