-- ==== Sys2Proof/Machine/Flags.lean ====
section
/-! DEFINITION. The alert conditions and the status bits the part shows: ALERT# (R188), the alert byte and the
status byte of STATUS, and the mark byte of CHANNEL (07 section 7.8). -/

namespace Sys2Proof.Machine

/-- A bit of a status byte. -/
def bit (b : Bool) (n : Nat) : Nat := if b then 2 ^ n else 0

/-- ALERT# is driven low while at least one alert condition is raised (R188). -/
def Alerts.pinLow (a : Alerts) : Bool :=
  a.critical || a.monitorLost || a.moduleAbsent || a.portFault || a.defaults

/-- STATUS byte 12: bit 4 CRITICAL, 3 MONITOR_LOST, 2 MODULE_ABSENT, 1 PORT_FAULT, 0 DEFAULTS_IN_USE. -/
def Alerts.byte (a : Alerts) : Byte :=
  byteOf (bit a.critical 4 + bit a.monitorLost 3 + bit a.moduleAbsent 2 + bit a.portFault 1 + bit a.defaults 0)

/-- ALERT# low, for the part. -/
def Part.alertLow (s : Part) : Bool := s.alerts.pinLow

/-- PORT_FAULT is raised while either port is in FAULT (R147). -/
def Part.testPortFault (s : Part) : Part :=
  { s with alerts := { s.alerts with
      portFault := decide (s.panel.port.state = .fault ∨ s.load.port.state = .fault) } }

/-- MODULE_ABSENT is raised while at least one listed module is ABSENT (R122, R130). -/
def Part.testModuleAbsent (s : Part) : Part :=
  { s with alerts := { s.alerts with moduleAbsent := s.roster.presence.any fun r => r.state == .absent } }

/-- Codes of 07 section 7.8. -/
def MonitorState.code : MonitorState → Nat
  | .awaiting => 0
  | .fresh => 1
  | .stale => 2
  | .lost => 3

def ChanState.code : ChanState → Nat
  | .unknown => 0
  | .live => 1
  | .shedding => 2
  | .shed => 3
  | .barred => 4
  | .restoring => 5
  | .overridden => 6
  | .released => 7

def Presence.code : Presence → Nat
  | .expected => 0
  | .present => 1
  | .silent => 2
  | .absent => 3

def Cause.code : Cause → Nat
  | .band => 0
  | .guard => 1
  | .runtime => 2
  | .lost => 3
  | .critical => 4
  | .restore => 5

def CommitState.code : CommitState → Nat
  | .idle => 0
  | .pending => 1
  | .writing => 2

def Appliance.code : Appliance → Nat
  | .none => 0
  | .running => 1
  | .stopped => 2
  | .fault => 3

def Awaited.code : Awaited → Nat
  | .none => 0
  | .stopreq => 1
  | .terminal => 2
  | .opening => 3

def Intent.code : Intent → Nat
  | .off => 0
  | .level n => n
  | .on => 100

def Terminal.code : Terminal → Nat
  | .openOut => 0
  | .dim n => n

end Sys2Proof.Machine
end

