-- ==== Sys2Proof/Machine/Ops.lean ====
section
/-! DEFINITION. The operations every unit shares: time, a channel's record and configuration, the shed zone,
notices, the shed list, the engine queue and its awaiting requests. -/

namespace Sys2Proof.Machine

namespace Part

/-! ## Time -/

/-- `dt` milliseconds pass on the part's time base (00_scope, Time). -/
def advance (s : Part) (dt : Nat) : Part := { s with now := s.now + dt }

/-- A deadline is reached when now equals or passes it (00_scope, Time). -/
def reached (s : Part) (t : Option Nat) : Bool :=
  match t with
  | none => false
  | some d => decide (d ≤ s.now)

/-! ## Channels and their configuration -/

/-- Changes the state record of one channel. -/
def modChan (s : Part) (c : Channel) (f : ChanRec → ChanRec) : Part := { s with chans := s.chans.set c (f s.chans[c]) }

/-- The active SETTINGS. -/
def settings (s : Part) : Settings := s.mgmt.active.settings

/-- The active configuration record of a channel, read at the moment of use (R49). -/
def cfg (s : Part) (c : Channel) : ChannelCfg := s.mgmt.active.channels[c]

/-- The active tier of a channel. -/
def tier (s : Part) (c : Channel) : Nat := (s.cfg c).tier

/-- The owning module of a channel under the active roster (R116). -/
def owner (s : Part) (c : Channel) : Option NodeId := s.mgmt.active.owner c

/-- The shed zone: managed, tier 1 or more, and not above the applied depth (R51). -/
def inZone (s : Part) (c : Channel) : Bool :=
  s.chans[c].managed && decide (1 ≤ s.tier c ∧ s.tier c ≤ s.assess.depth)

/-- A channel is on when its last reported level is above 0 or its intent is ON or LEVEL n (R50). -/
def isOn (s : Part) (c : Channel) : Bool :=
  (match s.chans[c].level with
    | some n => decide (0 < n)
    | none => false)
  || (match s.chans[c].intent with
    | some .on => true
    | some (.level _) => true
    | _ => false)

/-- The load is idle when the last reported current is present and at or below the active idle threshold; 255, not
measured, is above every threshold (R84, R86). -/
def isIdle (s : Part) (c : Channel) : Bool :=
  match s.chans[c].current with
  | some n => decide (n ≤ (s.cfg c).idle)
  | none => false

/-- The ready time: off-since time plus the active minimum off time; absent when the off-since time is (R103). -/
def readyTime (s : Part) (c : Channel) : Option Nat := s.chans[c].offSince.map fun t => t + 1000 * (s.cfg c).minOff

/-- The minimum off time has passed since the off-since time, or that time is absent (R65, R92, R103). -/
def ready (s : Part) (c : Channel) : Bool :=
  match s.readyTime c with
  | none => true
  | some t => decide (t ≤ s.now)

/-- Sets or removes the programme context of a channel. -/
def setCtx (s : Part) (c : Channel) (x : Option Context) : Part := { s with ctxs := s.ctxs.set c x }

/-! ## Notices -/

/-- A notice is formed with the assessment number modulo 256 and offered to the notice queue: it enters with the
lost-before bit if the overflow mark is set, or is lost at a full queue (R164, R182). -/
def notify (s : Part) (b : NoticeBody) : Part :=
  if s.panel.notices.length < Config.noticeCap then
    { s with panel := { s.panel with
        notices := s.panel.notices ++
          [{ body := b, lost := s.panel.overflow, number := s.assess.number % 256, attempts := 0, pauseEnd := none }]
        overflow := false } }
  else { s with panel := { s.panel with overflow := true } }

/-- Entries to these states produce a CHANNEL notice (R76). -/
def noticed : ChanState → Bool
  | .shed | .barred | .live | .overridden | .released => true
  | .shedding | .restoring | .unknown => false

/-- A channel enters a state, with a CHANNEL notice where R76 gives one: a state kept produces none. -/
def enter (s : Part) (c : Channel) (st : ChanState) : Part :=
  let s' := s.modChan c fun r => { r with state := st }
  if s.chans[c].state ≠ st ∧ noticed st then s'.notify (.channel c st) else s'

/-- BARRED is entered with the off-since time set to now if it is absent (R55, R62). -/
def enterBarred (s : Part) (c : Channel) : Part :=
  (s.modChan c fun r => { r with offSince := r.offSince <|> some s.now }).enter c .barred

/-! ## The shed list -/

/-- The channel becomes the newest entry, at the head (R99). -/
def push (s : Part) (c : Channel) : Part := { s with seq := { s.seq with list := c :: s.seq.list } }

/-- The channel is removed; the others keep their order (R98, R100). -/
def unlist (s : Part) (c : Channel) : Part := { s with seq := { s.seq with list := s.seq.list.filter (· ≠ c) } }

end Part

/-! ## Engine frames -/

/-- The channel of a channel command. -/
def EngBody.channel : EngBody → Option Channel
  | .switchOff c | .switchOn c | .switchLevel c _ | .stopreq c => some c
  | .openset | .census _ => none

/-- Two commands of one kind, SWITCH or STOPREQ, for one channel (R158). -/
def EngBody.sameKind (a b : EngBody) : Bool :=
  decide (a.channel = b.channel) &&
    (match a, b with
      | .stopreq _, .stopreq _ => true
      | .stopreq _, _ => false
      | _, .stopreq _ => false
      | _, _ => true)

/-- A terminal command or a repeat of one (R60, R67). -/
def Purpose.isTerminal : Purpose → Bool
  | .terminal _ | .resend => true
  | _ => false

namespace Part

/-- A terminal command of the channel stands in the engine queue, on the bus, or awaiting a slot (R60), or a group
opening that carries the channel is PENDING or SENT, or waits behind one: the opening is the channel's terminal
command (R60, R74, log 39). A terminal that stands keeps the mark whether it was queued after the one that has ended or
before it (DESIGN CHOICE, log 43). -/
def terminalStands (s : Part) (c : Channel) : Bool :=
  (s.load.engine.any fun e => !e.leaving && e.purpose.isTerminal && decide (e.body.channel = some c))
  || (s.load.awaiting.any fun r => r.purpose.isTerminal && decide (r.body.channel = some c))
  || decide (c ∈ s.roster.openingSet ∨ c ∈ s.roster.further)

/-- A stale terminal outcome clears the terminal in flight mark, unless another terminal command of the channel stands
(R60, logs 39 and 43). -/
def staleTerminal (s : Part) (c : Channel) : Part :=
  if s.terminalStands c then s else s.modChan c fun r => { r with inFlight := false }

/-- The end of a restore at the Sequencer: the spacing timer starts with the active restore spacing (R107). -/
def startSpacing (s : Part) : Part :=
  { s with seq := { s.seq with
      restoring := none, state := .spacing, spacingAt := some (s.now + s.settings.restoreSpacing) } }

/-- A replaced awaiting command is handed back withdrawn. It is stale at its requester: a terminal's mark follows
R60, and a restore ends the Sequencer's IN_FLIGHT (R107, R158). -/
def handBack (s : Part) (r : Request) : Part :=
  match r.purpose, r.body.channel with
  | .restore, _ => s.startSpacing
  | .terminal _, some c => s.staleTerminal c
  | .resend, some c => s.staleTerminal c
  | _, _ => s

/-- A channel command enters the engine queue at the tail, tied to the channel's owning module (R118, R156). -/
def enqueue (s : Part) (r : Request) : Part :=
  { s with load := { s.load with engine := s.load.engine ++
      [{ body := r.body, purpose := r.purpose, tie := r.body.channel.bind s.owner, attempts := 0, pauseEnd := none,
         leaving := false }] } }

/-- A unit asks the Load Port for a slot for a channel command: it enters at once, or awaits, in place of an
awaiting command of the same kind for the channel (R157, R158). -/
def request (s : Part) (body : EngBody) (purpose : Purpose) : Part :=
  if s.load.engine.length < Config.queueCap then s.enqueue { body := body, purpose := purpose }
  else
    let old := s.load.awaiting.filter fun r => r.body.sameKind body
    let kept := s.load.awaiting.filter fun r => !r.body.sameKind body
    old.foldl handBack { s with load := { s.load with awaiting := kept ++ [{ body := body, purpose := purpose }] } }

/-! ## The Roster Unit's frames in the engine queue -/

/-- A census round enters the engine queue. The first empties the answered set and clears the unlisted-node mark;
each carries the answered set as it stands (R124). -/
def queueRound (s : Part) : Part :=
  let r := if s.roster.census = .running then { s.roster with round := s.roster.round + 1 }
    else { s.roster with census := .running, round := 1, answered := [], unlisted := false }
  { s with
    roster := r
    load := { s.load with
      awaitCensus := false
      engine := s.load.engine ++
        [{ body := .census r.answered, purpose := .census, tie := none, attempts := 0, pauseEnd := none,
           leaving := false }] } }

/-- The Roster Unit asks for a slot for a census round (R123, R157). -/
def askRound (s : Part) : Part :=
  if s.load.engine.length < Config.queueCap then s.queueRound
  else { s with load := { s.load with awaitCensus := true } }

/-- The OPENSET enters the engine queue with the owners of its members recorded, ahead of every frame but one whose
attempt is on the bus (R127, R156). -/
def queueOpenset (s : Part) : Part :=
  let e : EngEntry :=
    { body := .openset, purpose := .openset, tie := none, attempts := 0, pauseEnd := none, leaving := false }
  let k := if s.load.sending = some .engine then 1 else 0
  { s with
    roster := { s.roster with opening := .sent, owners := s.roster.openingSet.map fun c => (c, s.owner c) }
    load := { s.load with
      awaitOpenset := false
      engine := s.load.engine.take k ++ e :: s.load.engine.drop k } }

/-- The Roster Unit asks for a slot for the OPENSET (R127, R157). -/
def askOpenset (s : Part) : Part :=
  if s.load.engine.length < Config.queueCap then s.queueOpenset
  else { s with load := { s.load with awaitOpenset := true } }

/-- The slot of a pending census's first round is asked for; while the Load Port is in FAULT no slot is granted, and
the census stays PENDING until the port is ACTIVE again (R123, R131, R165, log 21). -/
def askFirst (s : Part) : Part := if s.load.port.state = .fault then s else s.askRound

/-- A census request: an IDLE census becomes PENDING and asks for its first slot; otherwise it is absorbed (R123). -/
def requestCensus (s : Part) : Part :=
  if s.roster.census = .idle then { s with roster := { s.roster with census := .pending } }.askFirst else s

/-- The oldest awaiting command of the lowest-numbered channel that has one (R157). -/
def firstAwaiting (s : Part) : Option Request :=
  allChannels.findSome? fun c => s.load.awaiting.find? fun r => decide (r.body.channel = some c)

/-- A freed slot is granted to the OPENSET, then to the CENSUS round, then to the lowest channel's oldest command
(R157). -/
def grant (s : Part) : Part :=
  if s.load.engine.length < Config.queueCap then
    if s.load.awaitOpenset then s.queueOpenset
    else if s.load.awaitCensus then s.queueRound
    else
      match s.firstAwaiting with
      | none => s
      | some r => { s with load := { s.load with awaiting := s.load.awaiting.erase r } }.enqueue r
  else s

/-- The frame whose outcome has been handed over leaves the engine queue, and its slot is granted (R156, R160). -/
def depart (s : Part) : Part :=
  { s with load := { s.load with engine := s.load.engine.filter fun e => !e.leaving } }.grant

end Part

end Sys2Proof.Machine
end

