-- ==== Sys2Proof/Machine/State.lean ====
section
/-! DEFINITION. The state of the machine: the part, and the queue of commands that wait; why a step can stop; the
state after reset. -/

namespace Sys2Proof.Machine

/-- Everything the spec gives the VK48 (`Part`), and the commands that wait, first in, first out. -/
structure State extends Part where
  pending : List Instr
  deriving DecidableEq, Repr

/-- Why the machine stops with a fault: no command of the VK48 does. The spec gives every command an effect or an
answer, so this type is empty. -/
inductive Fault where
  deriving DecidableEq, Repr

/-- Why a command is refused. -/
inductive Refusal where
  /-- Raised by `exec` for a command that has no meaning yet, by its table name; safe. No arm raises it. -/
  | notModelled (mnemonic : String)
  deriving DecidableEq, Repr

/-- The machine right after the release of RESET#: straps open, reading 0, and a setting store that was never
written (R184, R185, logs 4 and 5); no command waits. -/
def State.reset : State := { Part.atRelease 0 0 none with pending := [] }

end Sys2Proof.Machine
end

