-- ==== Sys2Proof/Machine/Event.lean ====
section
/-! DEFINITION. How a command becomes a step: its time passes, and its event acts on the part; the queue of waiting
commands is left alone. -/

namespace Sys2Proof.Machine

/-- The outcome of every command of the VK48. -/
abbrev Outcome := Host.Outcome State Fault Refusal

/-- `dt` ms pass, and the event `f` acts on the part (log 1). -/
def event (s : State) (dt : Nat) (f : Part → Part) : Outcome := .next { s with toPart := f (s.toPart.advance dt) }

end Sys2Proof.Machine
end

