-- ==== Sys2Proof/Machine/Reserve.lean ====
section
/-! DEFINITION. The Reserve Unit (01) as functions on its own record: an accepted sample in its stages (R3), the part
it takes in an assessment (R15), SET_RESERVE (R22) and what a change of tables does to it (R9, R23). -/

namespace Sys2Proof.Machine

namespace ReserveUnit

/-- The state of charge, truncated, absent while the reserve is not valid (R14). -/
def soc (r : ReserveUnit) (cMas : Nat) : Option Nat := if r.valid then some (r.reserve * 1000 / cMas) else none

/-- Stage 1: FRESH with both timers restarted; a return from LOST clears validity, reserve, residue and runtime (R4). -/
def refresh (r : ReserveUnit) (now : Nat) : ReserveUnit :=
  let r1 : ReserveUnit :=
    if r.monitor = .lost then { r with valid := false, reserve := 0, residue := 0, runtime := none } else r
  { r1 with monitor := .fresh, staleAt := some (now + Config.staleMs), lostAt := some (now + Config.lostMs) }

/-- Stage 2: the elapsed time of a sample that is not seeding, clamped to 1..500 ms (R7). -/
def elapsed (r : ReserveUnit) (now : Nat) : Nat :=
  match r.lastArrival with
  | none => 1
  | some t => max 1 (min Config.maxElapsed (now - t))

/-- The sample's charge P in 0.01 mA·s; a charging current counts by the acceptance factor (R10). -/
def charge (current : Int) (elapsed acceptance : Nat) : Int :=
  if current < 0 then Int.tdiv (current * elapsed * acceptance) 1000 else current * elapsed

/-- Stage 3: P is added to the residue, and the whole mA·s are taken from the reserve, which saturates at 0 and C_mAs
with the residue 0 (R11, R12). -/
def count (r : ReserveUnit) (p : Int) (cMas : Nat) : ReserveUnit :=
  let total := r.residue + p
  let whole := Int.tdiv total 100
  let next := (r.reserve : Int) - whole
  if (cMas : Int) < next then { r with reserve := cMas, residue := 0 }
  else if next < 0 then { r with reserve := 0, residue := 0 }
  else { r with reserve := next.toNat, residue := total - whole * 100 }

/-- Stage 4: the compensated voltage (R17). -/
def compensate (voltage : Nat) (current : Int) (rint : Nat) : Nat :=
  (max 0 (min 65535 ((voltage : Int) + Int.tdiv (current * rint) 1000))).toNat

/-- A filter moves by a fraction of the difference, truncated (R18). -/
def filterStep (value input : Int) (shift : Nat) : Int := value + Int.tdiv (input - value) (2 ^ shift : Nat)

/-- Stage 5: both filters are seeded, or stepped (R18). -/
def filter (r : ReserveUnit) (seeding : Bool) (vc : Nat) (current : Int) (kv ki : Nat) : ReserveUnit :=
  if seeding then { r with vf := vc, cur := current }
  else { r with vf := (filterStep r.vf vc kv).toNat, cur := filterStep r.cur current ki }

/-- Stage 6: the critical count, saturating at 20, or 0 at or above V_critical (R20). -/
def countCritical (r : ReserveUnit) (vCritical : Nat) : ReserveUnit :=
  { r with critCount := if r.vf < vCritical then min Config.critCountCap (r.critCount + 1) else 0 }

/-- Stage 6: the critical-entry signal is due (R20). -/
def signals (r : ReserveUnit) (t : Settings) : Bool := decide (r.vf < t.vCritical ∧ t.critDebounce ≤ r.critCount)

/-- An accepted sample, stages 1 to 7 (R3); the signal of stage 6 is `signals` of the result. -/
def accept (r : ReserveUnit) (t : Settings) (now : Nat) (d : SampleData) : ReserveUnit :=
  let seeding := r.seed
  let r1 := r.refresh now
  let r3 := if r1.valid && !seeding then r1.count (charge d.current (r.elapsed now) t.acceptance) t.cMas else r1
  let r6 := (r3.filter seeding (compensate d.voltage d.current t.rint) d.current t.kv t.ki).countCritical t.vCritical
  { r6 with lastSeq := some d.seq, lastArrival := some now, seed := false }

/-- The full-charge condition (R21). -/
def fullCondition (r : ReserveUnit) (t : Settings) : Bool :=
  decide (t.vFull ≠ 0 ∧ r.monitor = .fresh ∧ t.vFull ≤ r.vf ∧ -(t.tail : Int) ≤ r.cur ∧ r.cur ≤ 0)

/-- Full-charge synchronisation, the first step of R15 (R21). -/
def syncFull (r : ReserveUnit) (t : Settings) : ReserveUnit :=
  if r.fullCondition t then
    if t.fullHold ≤ r.fullHold + 1 then
      { r with reserve := t.cMas, residue := 0, valid := true, fullHold := 0 }
    else { r with fullHold := r.fullHold + 1 }
  else { r with fullHold := 0 }

/-- The runtime estimate in minutes (R16). -/
def estimate (reserve : Nat) (cur : Int) (t : Settings) : Nat :=
  let floorMas := t.cMas * t.floor / 1000
  if reserve ≤ floorMas then 0
  else if cur < 10 then 65535
  else min 65535 ((reserve - floorMas) / (cur.toNat * 600))

/-- The second step of R15: the runtime is computed, or becomes absent (R16). -/
def computeRuntime (r : ReserveUnit) (t : Settings) : ReserveUnit :=
  { r with runtime := if r.valid then some (estimate r.reserve r.cur t) else none }

/-- The Reserve Unit's part of an assessment (R15). -/
def assess (r : ReserveUnit) (t : Settings) : ReserveUnit := (r.syncFull t).computeRuntime t

/-- SET_RESERVE with p clamped to 0..1000 (R22). -/
def setTo (r : ReserveUnit) (p : Nat) (cMas : Nat) : ReserveUnit :=
  { r with reserve := min p 1000 * cMas / 1000, residue := 0, valid := true }

/-- A changed monitor node makes last sequence and arrival absent and sets the seed mark (R9). -/
def newMonitor (r : ReserveUnit) (old new : Settings) : ReserveUnit :=
  if old.monitorNode ≠ new.monitorNode then { r with lastSeq := none, lastArrival := none, seed := true } else r

/-- A changed capacity rescales a valid reserve to the same state of charge (R23). -/
def rescale (r : ReserveUnit) (old new : Settings) : ReserveUnit :=
  if old.capacity ≠ new.capacity then
    match r.soc old.cMas with
    | none => r
    | some x => { r with reserve := x * new.cMas / 1000, residue := 0 }
  else r

/-- What a change of the active SETTINGS does to the Reserve Unit (R9, R23, R25). -/
def retable (r : ReserveUnit) (old new : Settings) : ReserveUnit := (r.newMonitor old new).rescale old new

end ReserveUnit

end Sys2Proof.Machine
end

