-- ==== Sys2Proof/Machine/Programme.lean ====
section
/-! DEFINITION. The Programme Runner (04): contexts, the steps, the terminal step, aborts; and entry to SHEDDING
(R57, R75), which creates a context. -/

namespace Sys2Proof.Machine

namespace Part

/-- A terminal step begins: SWITCH OFF for OPEN, SWITCH LEVEL at the active dim level for DIM. The Channel Table
records the shed terminal, the off-since time and the terminal in flight mark (R58, R87). -/
def beginTerminal (s : Part) (c : Channel) (x : Context) (k : Nat) : Part :=
  let isDim := (slotAt x.prog k).kind == .dim
  let body : EngBody := if isDim then .switchLevel c (s.cfg c).dim else .switchOff c
  let term : Terminal := if isDim then .dim (s.cfg c).dim else .openOut
  let s1 := s.setCtx c (some
    { x with index := k, deadline := none, requestSent := false, awaited := .terminal })
  let s2 := s1.request body (.terminal x.id)
  s2.modChan c fun r => { r with terminal := some term, offSince := some s.now, inFlight := true }

/-- A waiting step begins: its deadline is now plus the argument in seconds (R84, R85). -/
def beginWait (s : Part) (c : Channel) (x : Context) (k : Nat) : Part :=
  s.setCtx c (some
    { x with index := k, deadline := some (s.now + 1000 * (slotAt x.prog k).arg), awaited := .none })

/-- A STOP_ASK step begins: a STOPREQ is queued, the request-sent mark set, the deadline started (R82). -/
def beginStopAsk (s : Part) (c : Channel) (x : Context) (k : Nat) : Part :=
  (s.setCtx c (some
    { x with
      index := k, deadline := some (s.now + 1000 * (slotAt x.prog k).arg), requestSent := true
      awaited := .stopreq })).request (.stopreq c) (.stopreq x.id)

/-- The status of a skip test: RUNNING satisfies it, an absent status is taken as NONE (R86). -/
def isRunning (s : Part) (c : Channel) : Bool := s.chans[c].status == some .running

/-- Steps are begun from slot `k` until one takes time: a skip step that holds passes over the slot after it, and a
WAIT_IDLE that finds the load idle ends at once (R81, R84, R86). `fuel` bounds the slots begun. A programme that
ends without a terminal step, which COMMIT refuses (R79), leaves its context waiting (log 24). -/
def beginFrom : Nat → Part → Channel → Context → Nat → Part
  | 0, s, c, x, k => s.setCtx c (some { x with index := k, deadline := none, awaited := .none })
  | fuel + 1, s, c, x, k =>
    match (slotAt x.prog k).kind with
    | .none => s.setCtx c (some { x with index := k, deadline := none, awaited := .none })
    | .stopAsk => s.beginStopAsk c x k
    | .waitIdle => if s.isIdle c then beginFrom fuel s c x (k + 1) else s.beginWait c x k
    | .hold => s.beginWait c x k
    | .skipIfIdle => beginFrom fuel s c x (if s.isIdle c then k + 2 else k + 1)
    | .skipIfRunning => beginFrom fuel s c x (if s.isRunning c then k + 2 else k + 1)
    | .openOut => s.beginTerminal c x k
    | .dim => s.beginTerminal c x k

/-- A step ends: its deadline and awaited command go, and the next used slot is begun (R81, R82). -/
def endStep (s : Part) (c : Channel) (x : Context) : Part :=
  beginFrom 4 s c { x with deadline := none, awaited := .none } (x.index + 1)

/-- A fresh context with a copy of the channel's active programme (R80). -/
def newContext (s : Part) (c : Channel) : Context :=
  { id := s.ctxSerial, prog := (s.cfg c).steps, index := 0, deadline := none, requestSent := false, awaited := .none }

/-- A context is created and its first step begun: at slot 0, or straight at the terminal step for an unprotected
channel while critical is set (R57, R75, R95). -/
def createContext (s : Part) (c : Channel) : Part :=
  let x := s.newContext c
  let s1 := { s with ctxSerial := s.ctxSerial + 1 }
  if s.assess.critical && !(s.cfg c).protect then s1.beginTerminal c x (terminalIndex x.prog)
  else beginFrom 4 s1 c x 0

/-- A channel enters SHEDDING: pushed as the newest entry, state set, context created (R57, R75). -/
def enterShedding (s : Part) (c : Channel) : Part := ((s.push c).enter c .shedding).createContext c

/-- An abort deletes the context with its deadline; its commands stay with the Load Port (R91). -/
def abort (s : Part) (c : Channel) : Part := s.setCtx c none

/-- A REPORT entry is handed to the step that stands: STOP_ASK reads the status, WAIT_IDLE the current, and other
steps take no action (R82, R84, R85, R89). -/
def runnerReport (s : Part) (c : Channel) (e : ReportEntry) : Part :=
  match s.ctxs[c] with
  | none => s
  | some x =>
    match (slotAt x.prog x.index).kind with
    | .stopAsk => if e.status = .stopped then s.endStep c x else s
    | .waitIdle => if e.current ≤ (s.cfg c).idle then s.endStep c x else s
    | _ => s

/-- The deadline of a step of one kind is reached, and the next step is begun; otherwise nothing happens
(R82, R84, R85). -/
def stepDeadline (s : Part) (c : Channel) (kind : StepKind) : Part :=
  match s.ctxs[c] with
  | none => s
  | some x => if (slotAt x.prog x.index).kind = kind ∧ s.reached x.deadline then s.endStep c x else s

/-- The outcome of a STOPREQ acts on the context that queued it while that context awaits it: REFUSED ends the
STOP_ASK step, DONE and no answer leave it waiting. Any other is stale and dropped, a withdrawal always (R82, R90). -/
def stopreqOutcome (s : Part) (c : Channel) (ctx : Nat) (o : CmdOutcome) : Part :=
  match s.ctxs[c] with
  | none => s
  | some x =>
    if x.id = ctx ∧ x.awaited = .stopreq then
      match o with
      | .refused => s.endStep c x
      | .done | .noAnswer => s.setCtx c (some { x with awaited := .none })
      | .withdrawn => s
    else s

end Part

end Sys2Proof.Machine
end

