-- ==== Sys2Proof/Machine/Restore.lean ====
section
/-! DEFINITION. The Restore Sequencer (05): eligibility, the pick, the restoring command, and the end of RESTORING
(R59); the entry to SHED, which makes a pick due, and the end of a programme (R58, R88). -/

namespace Sys2Proof.Machine

namespace Part

/-- The command that carries a channel's intent: SWITCH ON, SWITCH LEVEL n, or SWITCH OFF while intent is OFF or
absent (R50, R106). -/
def intentCommand (s : Part) (c : Channel) : EngBody :=
  match s.chans[c].intent with
  | some .on => .switchOn c
  | some (.level n) => .switchLevel c n
  | _ => .switchOff c

/-- The channel becomes RESTORING when its SWITCH is queued: the off-since time becomes absent with ON or LEVEL, and
is kept with OFF (R59). -/
def toRestoring (s : Part) (c : Channel) (body : EngBody) (p : Purpose) : Part :=
  ((s.request body p).modChan c fun r =>
    { r with offSince := if body = .switchOff c then r.offSince else none }).enter c .restoring

/-- The channel leaves the list for LIVE with its confirmed mark cleared, and nothing is sent: a restore or resume
that would carry SWITCH OFF for a tier 0 channel (R92, R106). -/
def liveUnsent (s : Part) (c : Channel) : Part :=
  ((s.unlist c).modChan c fun r => { r with confirmed := false }).enter c .live

/-- An entry of the shed list is eligible: SHED, outside the shed zone, critical clear, ready time reached (R102). -/
def eligible (s : Part) (c : Channel) : Bool :=
  decide (s.chans[c].state = .shed) && !s.inZone c && !s.assess.critical && s.ready c

/-- A pick: the newest eligible entry is removed, its restoring command queued, and the Sequencer is IN_FLIGHT; an
entry of intent OFF and tier 0 becomes LIVE unsent, and spacing starts (R105, R106). -/
def pick (s : Part) : Part :=
  match s.seq.list.find? s.eligible with
  | none => s
  | some c =>
    let body := s.intentCommand c
    if body = .switchOff c ∧ s.tier c = 0 then (s.liveUnsent c).startSpacing
    else
      let s1 := (s.unlist c).toRestoring c body .restore
      { s1 with seq := { s1.seq with restoring := some c, state := .inFlight, spacingAt := none } }

/-- A pick falls due: it is made in IDLE alone, and is not kept for later (R104). -/
def pickDue (s : Part) : Part := if s.seq.state = .idle then s.pick else s

/-- A channel enters SHED: at the end of its programme, or by a held ON in BARRED. The entry makes a pick due (R58, R62,
R104). -/
def enterShed (s : Part) (c : Channel) : Part := (s.enter c .shed).pickDue

/-- A programme ends with its terminal's outcome: the context is deleted and the channel enters SHED, confirmed on DONE
(R58, R88). -/
def endProgramme (s : Part) (c : Channel) (done : Bool) : Part :=
  ((s.setCtx c none).modChan c fun r => { r with confirmed := done, inFlight := false }).enterShed c

/-- The outcome of a terminal command ends the programme of the context that awaits it, or is stale; a
withdrawal is always stale (R88, R90). -/
def terminalOutcome (s : Part) (c : Channel) (ctx : Nat) (o : CmdOutcome) : Part :=
  match s.ctxs[c] with
  | none => s.staleTerminal c
  | some x =>
    if o ≠ .withdrawn ∧ x.id = ctx ∧ x.awaited = .terminal then s.endProgramme c (decide (o = .done)) else s.staleTerminal c

/-- The result of the group opening for one channel: OPENED ends the programme as DONE, NOT OPENED begins the
terminal step again, and a stale result only clears the terminal in flight mark (R94). The result acts on the context
that now awaits an opening, also when that context was made after the opening which has ended (DESIGN CHOICE,
log 44). -/
def openingResult (s : Part) (c : Channel) (opened : Bool) : Part :=
  match s.ctxs[c] with
  | none => s.staleTerminal c
  | some x =>
    if x.awaited = .opening then
      if opened then s.endProgramme c true else s.beginTerminal c x x.index
    else s.staleTerminal c

/-- RESTORING ends with its command's outcome: LIVE outside the shed zone, SHEDDING at once inside it. In any other
state the outcome is dropped (R59, R60). A withdrawn resume ends it too, with the confirmed mark cleared (DESIGN
CHOICE, log 37). -/
def endRestoring (s : Part) (c : Channel) (o : CmdOutcome) : Part :=
  if s.chans[c].state = .restoring then
    let s1 := s.modChan c fun r => { r with confirmed := decide (o = .done) }
    if s1.inZone c then s1.enterShedding c else s1.enter c .live
  else s

/-- The end of the Sequencer's restore: passed to the Channel Table for the restoring channel, then spacing (R107). -/
def restoreOutcome (s : Part) (c : Channel) (o : CmdOutcome) : Part := (s.endRestoring c o).startSpacing

end Part

end Sys2Proof.Machine
end

