-- ==== Sys2Proof/Machine/ChannelTable.lean ====
section
/-! DEFINITION. The Channel Table (03): reports, rises and falls, repeated terminals, overrides, release and retain,
the reconciliation at a swap, and critical entry with the Programme Runner's part of it (R93). -/

namespace Sys2Proof.Machine

/-- The state after `f` has acted on each channel of a list, in the list's order. -/
def Part.forEach (s : Part) (cs : List Channel) (f : Part → Channel → Part) : Part := cs.foldl f s

namespace Part

/-! ## Repeated terminals (R67..R69) -/

/-- The terminal command recorded in the shed terminal is queued again; the resend and terminal in flight marks are
set and the off-since time is now. None is queued while the shed terminal is absent (R67). -/
def repeatTerminal (s : Part) (c : Channel) : Part :=
  match s.chans[c].terminal with
  | none => s
  | some t =>
    let body : EngBody := match t with
      | .openOut => .switchOff c
      | .dim n => .switchLevel c n
    (s.request body .resend).modChan c fun r => { r with resend := true, inFlight := true, offSince := some s.now }

/-- The reported level stands above the shed terminal (R67). -/
def aboveTerminal (t : Option Terminal) (level : Nat) : Bool :=
  match t with
  | none => false
  | some .openOut => decide (0 < level)
  | some (.dim n) => decide (n < level)

/-- A report for a SHED channel is tested for stray-on (R67). -/
def strayOn (s : Part) (c : Channel) (level : Nat) : Part :=
  let r := s.chans[c]
  if aboveTerminal r.terminal level ∧ 1 ≤ s.tier c ∧ !r.unreachable ∧ !r.inFlight ∧ !r.resend
  then s.repeatTerminal c else s

/-- At each assessment the resend marks are cleared, and the terminal of every unconfirmed, reachable SHED channel of
tier 1 or more with none in flight is queued again, in ascending channel order (R68). -/
def resendAll (s : Part) : Part :=
  let s1 : Part := { s with chans := s.chans.map fun r => { r with resend := false } }
  s1.forEach allChannels fun s c =>
    let r : ChanRec := s.chans[c]
    if r.state = .shed ∧ !r.confirmed ∧ 1 ≤ s.tier c ∧ !r.unreachable ∧ !r.inFlight then s.repeatTerminal c else s

/-- A module has become ABSENT: each of its channels is unreachable and unconfirmed (R69). -/
def markUnreachable (s : Part) (n : NodeId) : Part :=
  s.forEach allChannels fun s c =>
    if s.owner c = some n then s.modChan c fun r => { r with unreachable := true, confirmed := false } else s

/-- A module has returned: its channels lose the unreachable mark, and each SHED one of tier 1 or more with no
terminal in flight has its terminal queued again, in ascending channel order (R69, R122). -/
def markReturned (s : Part) (n : NodeId) : Part :=
  (s.forEach allChannels fun s c =>
    if s.owner c = some n then s.modChan c fun r => { r with unreachable := false } else s).forEach
  allChannels fun s c =>
    if s.owner c = some n ∧ s.chans[c].state = .shed ∧ 1 ≤ s.tier c ∧ !s.chans[c].inFlight
    then s.repeatTerminal c else s

/-! ## Reports (R52..R54) -/

/-- A taken entry resolves an UNKNOWN channel: SHEDDING, BARRED or LIVE by the shed zone and the output (R53). -/
def resolve (s : Part) (c : Channel) (level : Nat) : Part :=
  let s1 := s.modChan c fun r => { r with intent := some (Intent.ofLevel level) }
  if s1.inZone c then
    if s1.isOn c then s1.enterShedding c
    else (s1.modChan c fun r => { r with offSince := some s.now }).enter c .barred
  else s1.enter c .live

/-- A taken entry: the last reported fields are updated in every state, and then the state acts on it (R52..R54). A
BARRED channel that reports output enters SHEDDING, but in tier 0, which never does (R78): it takes the intent and stays
BARRED (DESIGN CHOICE, log 46). -/
def takeEntry (s : Part) (c : Channel) (e : ReportEntry) : Part :=
  let s1 := s.modChan c fun r => { r with level := some e.level, current := some e.current, status := some e.status }
  match s.chans[c].state with
  | .unknown => s1.resolve c e.level
  | .live | .overridden => s1.modChan c fun r => { r with intent := some (Intent.ofLevel e.level) }
  | .barred =>
    if 0 < e.level then
      let s2 := s1.modChan c fun r => { r with intent := some (Intent.ofLevel e.level) }
      if s.tier c = 0 then s2 else s2.enterShedding c
    else s1
  | .shed => s1.strayOn c e.level
  | .shedding => s1.runnerReport c e
  | .restoring | .released => s1

/-- A REPORT: each entry from its channel's owning module is taken, the first one whole before the second (R52). -/
def takeReport (s : Part) (source : NodeId) (data : List Byte) : Part :=
  (reportEntries data).foldl (fun s p => if s.owner p.1 = some source then s.takeEntry p.1 p.2 else s) s

/-! ## Rise and fall of the applied depth (R55, R56) -/

/-- At a rise from depth `old`, each LIVE channel of the newly included tiers enters SHEDDING when on and BARRED when
off, in ascending channel order (R55). -/
def riseAction (s : Part) (old : Nat) : Part :=
  s.forEach allChannels fun s c =>
    if s.chans[c].state = .live ∧ old < s.tier c ∧ s.tier c ≤ s.assess.depth then
      if s.isOn c then s.enterShedding c else s.enterBarred c
    else s

/-- A BARRED channel follows the user again: LIVE with intent OFF, its off-since time kept (R56). -/
def unbar (s : Part) (c : Channel) : Part := (s.modChan c fun r => { r with intent := some .off }).enter c .live

/-- At a fall, each BARRED channel whose tier now lies above the depth becomes LIVE, in ascending channel order
(R56). -/
def fallAction (s : Part) : Part :=
  s.forEach allChannels fun s c => if s.chans[c].state = .barred ∧ s.assess.depth < s.tier c then s.unbar c else s

/-! ## Overrides (R64..R66) -/

/-- The override entry that holds a channel. -/
def overrideOf (s : Part) (c : Channel) : Option (Fin 4) :=
  (List.finRange 4).find? fun i => decide ((s.overrides[i].map Override.ch) = some c)

/-- The lowest-numbered free override entry (R64). -/
def freeOverride (s : Part) : Option (Fin 4) := (List.finRange 4).find? fun i => s.overrides[i].isNone

/-- Sets or frees an override entry. -/
def setOverride (s : Part) (i : Fin 4) (o : Option Override) : Part := { s with overrides := s.overrides.set i o }

/-- Frees a channel's override entry, with any pending switch-on (R64, R65). -/
def freeOverrideOf (s : Part) (c : Channel) : Part :=
  { s with overrides := s.overrides.map fun o => if o.map Override.ch = some c then none else o }

/-- A boost switch-on is queued, carrying the intent, and the off-since time becomes absent. With intent OFF or absent
no switch-on is made (R50, R65, log 12). -/
def boostSwitchOn (s : Part) (c : Channel) : Part :=
  match s.intentCommand c with
  | .switchOff _ => s
  | body => (s.request body .boostOn).modChan c fun r => { r with offSince := none }

/-- An override entry's expiry is reached: it is freed, and its channel enters SHEDDING in the shed zone and becomes
LIVE outside it (R66). -/
def expireOverride (s : Part) (i : Fin 4) (o : Override) : Part :=
  let s1 := s.setOverride i none
  if s1.inZone o.ch then s1.enterShedding o.ch else s1.enter o.ch .live

/-- A command that serves as a restore or a resume (R65). -/
def isReturn (p : Purpose) : Bool := decide (p = .restore ∨ p = .resume)

/-- The restore or resume of the channel that was queued last and is still in flight carries SWITCH OFF (R65,
log 31). -/
def offInFlight (s : Part) (c : Channel) : Bool :=
  let queued := (s.load.engine.filter fun e => !e.leaving && isReturn e.purpose && decide (e.body.channel = some c)).map
    EngEntry.body
  let waiting := (s.load.awaiting.filter fun r => isReturn r.purpose && decide (r.body.channel = some c)).map Request.body
  (queued ++ waiting).getLast? == some (.switchOff c)

/-- A granted BOOST needs a switch-on, by the state before the grant (R65). A RESTORING channel's restore or resume in
flight serves as its switch-on when it carries ON or LEVEL, and a pending switch-on stands. -/
def boostNeedsOn (s : Part) (c : Channel) : Bool :=
  let r := s.chans[c]
  let dark := decide (r.level = some 0)
  match r.state with
  | .shed | .barred => true
  | .shedding => (s.ctxs[c].map Context.requestSent).getD false || r.inFlight || dark
  | .restoring => s.offInFlight c
  | .overridden =>
    dark && !(s.overrides.toList.any fun o =>
      decide (o.map Override.ch = some c) && (o.bind Override.deadline).isSome)
  | _ => dark

/-- A BOOST is granted in these states (R63). -/
def boostable : ChanState → Bool
  | .live | .shedding | .shed | .barred | .restoring | .overridden => true
  | .unknown | .released => false

/-- Every condition of a BOOST's grant holds (R61, R63). -/
def boostGranted (s : Part) (c : Channel) (minutes : Byte) : Bool :=
  minutes != 0 && boostable s.chans[c].state && decide (1 ≤ s.tier c) && (s.cfg c).boostOk && !s.assess.critical
    && ((s.overrideOf c).isSome || s.freeOverride.isSome)

/-- A granted BOOST takes or renews the channel's override entry (R64). -/
def takeOverride (s : Part) (c : Channel) (minutes : Byte) : Part :=
  let expiry := s.now + 60000 * clampNat 1 (s.cfg c).boostMax minutes.toNat
  match s.overrideOf c with
  | some i => s.setOverride i (s.overrides[i].map fun o => { o with expiry := expiry })
  | none =>
    match s.freeOverride with
    | some i => s.setOverride i (some { ch := c, expiry := expiry, deadline := none })
    | none => s

/-- Intent becomes ON unless it is LEVEL n, which is kept (R64). -/
def boostIntent : Option Intent → Option Intent
  | some (.level n) => some (.level n)
  | _ => some .on

/-- The switch-on of a granted BOOST: at once when the minimum off time has passed, else on pending with a deadline at
off-since plus the minimum off time (R65). -/
def startBoostOn (s : Part) (c : Channel) : Part :=
  if s.ready c then s.boostSwitchOn c
  else
    { s with overrides := s.overrides.map fun o =>
        if o.map Override.ch = some c then (o.map fun x => { x with deadline := s.readyTime c }) else o }

/-- A granted BOOST, in the order of R64 and then R65. -/
def grantBoost (s : Part) (c : Channel) (minutes : Byte) : Part :=
  let needsOn := s.boostNeedsOn c
  let s1 := (s.takeOverride c minutes).modChan c fun r => { r with intent := boostIntent r.intent }
  let s2 := ((s1.abort c).unlist c).enter c .overridden
  if needsOn then s2.startBoostOn c else s2

/-! ## Release and retain (R70, R71) -/

/-- RELEASE of one managed channel: programme aborted, list and override entry left, RELEASED with a notice (R70). -/
def releaseOne (s : Part) (c : Channel) : Part :=
  if s.chans[c].managed then
    ((((s.modChan c fun r => { r with managed := false }).abort c).unlist c).freeOverrideOf c).enter c .released
  else s

/-- The fields of a channel that becomes UNKNOWN by RETAIN or by a change of owner; the unreachable mark is kept
(R71, R73). -/
def forgetChan (r : ChanRec) : ChanRec :=
  { r with intent := none, level := none, current := none, status := none, offSince := none, terminal := none,
           confirmed := false, resend := false, inFlight := false }

/-- RETAIN of one RELEASED channel (R71). -/
def retainOne (s : Part) (c : Channel) : Part :=
  if s.chans[c].state = .released then
    (s.modChan c fun r => { forgetChan r with managed := true }).enter c .unknown
  else s

/-- The channels n..47 in ascending order (R70, R71). -/
def channelsFrom (n : Nat) : List Channel := allChannels.filter fun c => decide (n ≤ c.val)

/-- RELEASE n (R70). -/
def releaseFrom (s : Part) (n : Nat) : Part := s.forEach (channelsFrom n) releaseOne

/-- RETAIN n (R71). -/
def retainFrom (s : Part) (n : Nat) : Part := s.forEach (channelsFrom n) retainOne

/-! ## Reconciliation at a swap (R73) -/

/-- The module of a node ID is ABSENT. -/
def nodeAbsent (s : Part) (n : Option NodeId) : Bool :=
  s.roster.presence.any fun r => decide (some r.node = n) && r.state == .absent

/-- Case 1 of R73: the owner of a managed channel has changed. -/
def reconcileOwner (s : Part) (c : Channel) : Part :=
  ((((s.abort c).unlist c).freeOverrideOf c).modChan c fun r =>
    { forgetChan r with unreachable := s.nodeAbsent (s.owner c) }).enter c .unknown

/-- The command a resume carries: the intent, or SWITCH OFF before the minimum off time has passed (R92). -/
def resumeCommand (s : Part) (c : Channel) : EngBody := if s.ready c then s.intentCommand c else .switchOff c

/-- Case 3 of R73: a SHEDDING channel has left the shed zone. An abort after a STOPREQ owes a resume (R91, R92). -/
def reconcileShedding (s : Part) (c : Channel) : Part :=
  if (s.ctxs[c].map Context.requestSent).getD false then
    let body := s.resumeCommand c
    if body = .switchOff c ∧ s.tier c = 0 then (s.abort c).liveUnsent c
    else ((s.abort c).unlist c).toRestoring c body .resume
  else ((s.abort c).unlist c).enter c .live

/-- A swap that changes the minimum off time moves a present switch-on deadline; one that has passed queues the
SWITCH at the swap (R65), at the channel's turn in the reconciliation (log 38). -/
def moveDeadline (s : Part) (old : Tables) (c : Channel) : Part :=
  match s.overrideOf c with
  | none => s
  | some i =>
    match s.overrides[i] with
    | none => s
    | some o =>
      if o.deadline.isSome ∧ (s.cfg c).minOff ≠ old.channels[c].minOff then
        if s.ready c then (s.setOverride i (some { o with deadline := none })).boostSwitchOn c
        else s.setOverride i (some { o with deadline := s.readyTime c })
      else s

/-- One channel is reconciled with the new tables, by the first case of R73 that holds; a moved switch-on deadline of
an OVERRIDDEN channel is handled here too (R65, log 38). `old` is the tables before the swap. -/
def reconcileOne (old : Tables) (s : Part) (c : Channel) : Part :=
  if s.chans[c].managed then
    if s.owner c ≠ old.owner c then s.reconcileOwner c
    else
      match s.chans[c].state with
      | .overridden =>
        if s.tier c = 0 then (s.freeOverrideOf c).enter c .live else s.moveDeadline old c
      | .shedding => if s.inZone c then s else s.reconcileShedding c
      | .barred => if s.inZone c then s else s.unbar c
      | .live => if s.inZone c then (if s.isOn c then s.enterShedding c else s.enterBarred c) else s
      | _ => s
  else if s.owner c ≠ old.owner c then
    s.modChan c fun r => { r with unreachable := s.nodeAbsent (s.owner c) }
  else s

/-- Every channel is reconciled in ascending channel order (R73). -/
def reconcile (s : Part) (old : Tables) : Part := s.forEach allChannels (reconcileOne old)

/-! ## Critical entry (R74, R93) -/

/-- The programme a channel would run at critical entry: its running copy, or its active record's (log 15). -/
def programmeOf (s : Part) (c : Channel) : Programme :=
  match s.ctxs[c] with
  | some x => x.prog
  | none => (s.cfg c).steps

/-- The programme's terminal step is OPEN. -/
def terminalIsOpen (p : Programme) : Bool := (slotAt p (terminalIndex p)).kind == .openOut

/-- Step 1: the channel is marked for the opening set (R74). -/
def marked (s : Part) (c : Channel) : Bool :=
  let r := s.chans[c]
  r.managed && decide (1 ≤ s.tier c) && !(s.cfg c).protect && terminalIsOpen (s.programmeOf c) && !r.inFlight
    && decide (r.state = .live ∨ r.state = .shedding ∨ r.state = .overridden)

/-- Every channel, in ascending tier 0..7, then ascending channel within a tier (R74, step 3). -/
def byTier (s : Part) : List Channel :=
  (List.range 8).flatMap fun t => allChannels.filter fun c => decide (min 7 (s.tier c) = t)

/-- Step 3 for one channel: OVERRIDDEN, marked LIVE, and other LIVE channels of tier 1 or more that are on are pushed
and become SHEDDING; other LIVE channels of tier 1 or more become BARRED (R74). -/
def criticalMove (mark : List Channel) (s : Part) (c : Channel) : Part :=
  match s.chans[c].state with
  | .overridden => (s.push c).enter c .shedding
  | .live =>
    if c ∈ mark then (s.push c).enter c .shedding
    else if 1 ≤ s.tier c then
      if s.isOn c then (s.push c).enter c .shedding else s.enterBarred c
    else s
  | _ => s

/-- Step 4 for one SHEDDING channel: a marked channel's context is placed at its terminal and awaits the opening; an
unprotected one is taken to its terminal, unless it awaits its terminal or an earlier opening; a protected one keeps or
starts its programme (R74, R93, log 14). -/
def criticalContext (mark : List Channel) (s : Part) (c : Channel) : Part :=
  if s.chans[c].state = .shedding then
    let fresh := s.ctxs[c].isNone
    let x := s.ctxs[c].getD (s.newContext c)
    let s1 := if fresh then { s with ctxSerial := s.ctxSerial + 1 } else s
    if c ∈ mark then
      (s1.setCtx c (some { x with
        index := terminalIndex x.prog, deadline := none, requestSent := false, awaited := .opening })).modChan c fun r =>
        { r with terminal := some .openOut, offSince := some s.now, inFlight := true }
    else if (s.cfg c).protect then
      if fresh then beginFrom 4 s1 c x 0 else s
    else if x.awaited = .terminal ∨ x.awaited = .opening then s
    else s1.beginTerminal c x (terminalIndex x.prog)
  else s

/-- The Roster Unit takes the opening set: pending with a slot asked for, added to a pending set, or added to the
further set while an opening is SENT; an empty set is not taken (R127). -/
def handOpening (s : Part) (cs : List Channel) : Part :=
  if cs = [] then s
  else
    let join (a b : List Channel) : List Channel := allChannels.filter fun c => decide (c ∈ a ∨ c ∈ b)
    match s.roster.opening with
    | .idle => { s with roster := { s.roster with opening := .pending, openingSet := cs } }.askOpenset
    | .pending => { s with roster := { s.roster with openingSet := join s.roster.openingSet cs } }
    | .sent => { s with roster := { s.roster with further := join s.roster.further cs } }

/-- Critical entry at the Channel Table: the five steps of R74 as one operation. -/
def channelCriticalEntry (s : Part) : Part :=
  let mark := allChannels.filter s.marked
  let s2 := { s with overrides := Vector.replicate 4 none }
  let s3 := s2.forEach s2.byTier (criticalMove mark)
  let s4 := s3.forEach s3.seq.list.reverse (criticalContext mark)
  s4.handOpening mark

end Part

end Sys2Proof.Machine
end

