-- ==== Sys2Proof/Machine/Roster.lean ====
section
/-! DEFINITION. The Roster Unit (06): hearings, unanswered counts, entry to ABSENT and return, rolls, the end of a
census, the end of the group opening, and presence at a swap. -/

namespace Sys2Proof.Machine

namespace Part

/-- The presence record of a node ID. -/
def record (s : Part) (n : NodeId) : Option PresenceRec := s.roster.presence.find? fun r => r.node == n

/-- Changes the first record of a node ID, which is its only one. -/
def modFirst (n : NodeId) (f : PresenceRec → PresenceRec) : List PresenceRec → List PresenceRec
  | [] => []
  | r :: rest => if r.node = n then f r :: rest else r :: modFirst n f rest

/-- Changes the presence record of a node ID. -/
def modRecord (s : Part) (n : NodeId) (f : PresenceRec → PresenceRec) : Part :=
  { s with roster := { s.roster with presence := modFirst n f s.roster.presence } }

/-- A node is heard: a listed module becomes PRESENT with count 0 and its silence timer restarted; from ABSENT the
Channel Table takes its return; SILENT and ABSENT give a MODULE notice (R119, R122). -/
def hearing (s : Part) (n : NodeId) : Part :=
  match s.record n with
  | none => s
  | some r =>
    let s1 := s.modRecord n fun r =>
      { r with state := .present, unanswered := 0, silenceAt := some (s.now + Config.silenceMs) }
    match r.state with
    | .expected | .present => s1
    | .silent => s1.notify (.module n .present)
    | .absent => ((s1.markReturned n).notify (.module n .present)).testModuleAbsent

/-- A module enters ABSENT: silence timer stopped, count as given, channels marked unreachable, MODULE notice,
MODULE_ABSENT raised (R122). -/
def enterAbsent (s : Part) (n : NodeId) (count : Nat) : Part :=
  let s1 := s.modRecord n fun r => { r with state := .absent, unanswered := count, silenceAt := none }
  let s2 := (s1.markUnreachable n).notify (.module n .absent)
  { s2 with alerts := { s2.alerts with moduleAbsent := true } }

/-- A frame tied to a module has ended with no answer after its last attempt: the count rises to at most 3, and at 3
the module becomes ABSENT (R121). -/
def countUnanswered (s : Part) (n : NodeId) : Part :=
  match s.record n with
  | none => s
  | some r =>
    let count := min Config.maxUnanswered (r.unanswered + 1)
    if count = Config.maxUnanswered ∧ r.state ≠ .absent then s.enterAbsent n count
    else s.modRecord n fun r => { r with unanswered := count }

/-- What the outcome of a tied frame does to presence (R119, R121): a verdict is a hearing, no answer counts, a
withdrawal counts for nothing. -/
def presenceOutcome (s : Part) (tie : Option NodeId) (o : CmdOutcome) : Part :=
  match tie, o with
  | none, _ => s
  | some _, .withdrawn => s
  | some n, .noAnswer => s.countUnanswered n
  | some n, .done => s.hearing n
  | some n, .refused => s.hearing n

/-- The silence timer of a PRESENT module expires: SILENT, MODULE notice, census requested (R120). -/
def silenceExpiry (s : Part) (n : NodeId) : Part :=
  match s.record n with
  | none => s
  | some r =>
    if r.state = .present ∧ s.reached r.silenceAt then
      ((s.modRecord n fun r => { r with state := .silent, silenceAt := none }).notify (.module n .silent)).requestCensus
    else s

/-! ## Rolls (R124, R126) -/

/-- A roll byte's ID sets the unlisted-node mark unless it is a roster node ID, the active monitor node or the part's
own (R126). -/
def testUnlisted (s : Part) (n : NodeId) : Part :=
  if s.mgmt.active.rosterNodes.contains n ∨ n.toNat = s.settings.monitorNode ∨ n = s.nodeId then s
  else { s with roster := { s.roster with unlisted := true } }

/-- One ID of a roll: a hearing when it is a roster node ID, and the unlisted-node test (R119, R126). -/
def rollId (s : Part) (n : NodeId) : Part := (s.hearing n).testUnlisted n

/-- The IDs of a roll, in the order received (R143, R160). -/
def rollAll (s : Part) (ids : List NodeId) : Part := ids.foldl rollId s

/-- One ID of a roll of the part's own census also joins the answered set (R124). -/
def censusId (s : Part) (n : NodeId) : Part :=
  { s with roster := { s.roster with
      answered := if s.roster.answered.contains n then s.roster.answered else s.roster.answered ++ [n] } }.rollId n

/-- The end of a census: each listed module that is EXPECTED or SILENT and not in the answered set becomes ABSENT, in
ascending entry index; the census is IDLE. A SILENT module left unjudged requests a census (R125). -/
def endCensus (s : Part) : Part :=
  let s1 := s.mgmt.active.rosterNodes.foldl (fun s n =>
    match s.record n with
    | none => s
    | some r =>
      if (r.state = .expected ∨ r.state = .silent) ∧ !s.roster.answered.contains n then s.enterAbsent n 0 else s) s
  let s2 : Part := { s1 with roster := { s1.roster with census := .idle, round := 0 } }
  if s2.roster.presence.any fun r => r.state == .silent then s2.requestCensus else s2

/-- A census round ends with a roll, or with no answer when the roll is empty: the IDs are taken, and the next round
is asked for, or the census ends after no answer or round 4 (R124). -/
def censusRoundDone (s : Part) (ids : List NodeId) : Part :=
  let s1 := ids.foldl censusId s
  if ids ≠ [] ∧ s1.roster.round ≠ Config.maxRounds then s1.askRound else s1.endCensus

/-! ## The group opening (R128, R129) -/

/-- After the resolution the opening set is emptied; a further set becomes pending with a slot asked for (R129). -/
def endOpening (s : Part) : Part :=
  if s.roster.further = [] then
    { s with roster := { s.roster with opening := .idle, openingSet := [], owners := [] } }
  else
    { s with roster := { s.roster with
        opening := .pending, openingSet := s.roster.further, owners := [], further := [] } }.askOpenset

/-- The recorded owner of a member. -/
def memberOwner (s : Part) (c : Channel) : Option NodeId := (s.roster.owners.find? fun p => p.1 == c).bind Prod.snd

/-- The OPENSET ends: the roll counts for presence, then each member is resolved in ascending channel order, OPENED
when its recorded owner is in the roll (R129, R160). The ended opening no longer stands for its members (log 39). -/
def opensetDone (s : Part) (ids : List NodeId) : Part :=
  let s1 := s.rollAll ids
  let opened (c : Channel) : Bool :=
    match s1.memberOwner c with
    | none => false
    | some n => ids.contains n
  let s2 : Part := { s1 with roster := { s1.roster with openingSet := [] } }
  (s2.forEach s1.roster.openingSet fun s c => s.openingResult c (opened c)).endOpening

/-- A channel has become tier 0 or RELEASED since a command for it was queued (R72). -/
def exempt (s : Part) (c : Channel) : Bool := decide (s.tier c = 0) || decide (s.chans[c].state = .released)

/-- At an attempt of the OPENSET the exempt members are taken out, each with the result NOT OPENED (R72, R128). -/
def takeOut (s : Part) : Part :=
  let out := s.roster.openingSet.filter s.exempt
  { s with roster := { s.roster with openingSet := s.roster.openingSet.filter fun c => !s.exempt c } }.forEach out
    fun s c => s.openingResult c false

/-! ## Presence at a swap (R130) -/

/-- The tie that a queued frame keeps: none once its node is no roster node ID (R130). -/
def keepTie (s : Part) (tie : Option NodeId) : Option NodeId :=
  tie.filter fun n => s.mgmt.active.rosterNodes.contains n

/-- Presence records are matched to the active roster by node ID: kept whole, new in EXPECTED, or lost; a frame tied to
a node that has left the roster counts toward none; then MODULE_ABSENT is tested (R130). -/
def matchPresence (s : Part) : Part :=
  { s with
    roster := { s.roster with
      presence := s.mgmt.active.rosterNodes.map fun n => (s.record n).getD (PresenceRec.expected n) }
    load := { s.load with
      engine := s.load.engine.map fun e : EngEntry => { e with tie := s.keepTie e.tie }
      forward := s.load.forward.map fun e : FwdEntry => { e with tie := s.keepTie e.tie } } }.testModuleAbsent

end Part

end Sys2Proof.Machine
end

