-- ==== Sys2Proof/Machine/Assessment.lean ====
section
/-! DEFINITION. The Assessment Unit (02): critical entry and its signal, the stages of an assessment, and the swap of
committed tables at its first stage (R174). -/

namespace Sys2Proof.Machine

/-! ## Guards (R29..R31) as functions on the unit's own record -/

namespace AssessUnit

/-- The voltage guard is stepped from Vf, in FRESH alone (R29, R30). -/
def stepVoltage (a : AssessUnit) (t : Settings) (m : MonitorState) (vf : Nat) : AssessUnit :=
  if m = .fresh then
    let qualifies : Bool := match a.vGuard with
      | .released => decide (vf < t.vGuard)
      | .active => decide (t.vGuard + t.guardMargin ≤ vf)
    let count := if qualifies then min Config.assessCountCap (a.vGuardCount + 1) else 0
    if t.guardDebounce ≤ count then
      { a with vGuardCount := 0, vGuard := match a.vGuard with
          | .released => .active
          | .active => .released }
    else { a with vGuardCount := count }
  else a

/-- The runtime guard is set from the runtime, by the first condition that holds (R31). -/
def stepRuntime (a : AssessUnit) (t : Settings) (runtime : Option Nat) : AssessUnit :=
  { a with rGuard :=
      if t.runtimeThreshold = 0 then .released
      else
        match runtime with
        | none => .released
        | some m =>
          if m < t.runtimeThreshold then .active
          else if t.runtimeThreshold + t.runtimeMargin ≤ m then .released
          else a.rGuard }

/-- The critical release count is stepped while critical is set and the monitor FRESH, and critical is released at
the release setting (R45). -/
def stepRelease (a : AssessUnit) (t : Settings) (m : MonitorState) (vf : Nat) : AssessUnit :=
  if a.critical ∧ m = .fresh then
    let count := if t.vCritical + t.critMargin ≤ vf then min Config.assessCountCap (a.releaseCount + 1) else 0
    if t.critRelease ≤ count then { a with critical := false, releaseCount := 0 } else { a with releaseCount := count }
  else a

/-- The largest of the terms that are counted; 0 when none is (R32, R33). -/
def largest (terms : List (Option Nat)) : Nat := terms.foldl (fun m t => max m (t.getD 0)) 0

/-- A term and the condition under which it is counted (R32). -/
def term (counted : Bool) (d : Nat) : Option Nat := if counted then some d else none

/-- The terms of a demand beside the band, in the order GUARD, RUNTIME, LOST (R32). -/
def guardTerms (a : AssessUnit) (t : Settings) (m : MonitorState) : List (Option Nat) :=
  [term (a.vGuard == .active) t.guardDepth, term (a.rGuard == .active) t.runtimeDepth, term (m == .lost) a.fallback]

/-- The cause of a rise: the first counted term equal to E in the order BAND, GUARD, RUNTIME, LOST (R35, R40). -/
def riseCause (terms : List (Option Nat)) (e : Nat) : Cause :=
  (((terms.zip [Cause.band, .guard, .runtime, .lost]).find? fun p => p.1 == some e).map Prod.snd).getD .lost

end AssessUnit

namespace Part

/-! ## Changes of the applied depth (R46) -/

/-- The applied depth becomes `d`, with a DEPTH notice that carries the cause (R46). -/
def setDepth (s : Part) (d : Nat) (cause : Cause) : Part :=
  { s with assess := { s.assess with depth := d } }.notify (.depth d cause)

/-- A rise at an assessment: depth, restore-hold count 0, DEPTH notice, the Channel Table's action (R35, R40, R55). -/
def riseTo (s : Part) (d : Nat) (cause : Cause) : Part :=
  ({ s with assess := { s.assess with holdCount := 0 } }.setDepth d cause).riseAction s.assess.depth

/-- A fall of one tier: restore-hold count 0, DEPTH notice with RESTORE, the Channel Table's action, the pick
(R36, R56, R104). -/
def fallOne (s : Part) : Part :=
  ({ s with assess := { s.assess with holdCount := 0 } }.setDepth (s.assess.depth - 1) .restore).fallAction.pickDue

/-! ## Critical (R42, R43) -/

/-- Critical entry: the mark and the alert, the depth to 7 with a notice if it was lower, both counts 0, and the
hand-over to the Channel Table (R42). -/
def criticalEntry (s : Part) : Part :=
  let s1 : Part := { s with
    alerts := { s.alerts with critical := true }
    assess := { s.assess with critical := true, releaseCount := 0, holdCount := 0 } }
  let s2 := if s.assess.depth < 7 then s1.setDepth 7 .critical else s1
  s2.channelCriticalEntry

/-- The critical-entry signal: entry while critical is clear; while it is set only the release count returns to 0
(R42, R43). -/
def criticalSignal (s : Part) : Part :=
  if s.assess.critical then { s with assess := { s.assess with releaseCount := 0 } } else s.criticalEntry

/-! ## The stages of an assessment (R27) -/

/-- The swap, in the order of R174: tables, unsettled mark, Reserve Unit, Roster Unit, Channel Table, Restore
Sequencer. The store write begins: the old store copy is being overwritten (R175). -/
def swap (s : Part) : Part :=
  let old := s.mgmt.active
  let s1 : Part := { s with
    mgmt := { s.mgmt with active := s.mgmt.shadow, commit := .writing, store := none }
    assess := { s.assess with unsettled := true }
    reserve := s.reserve.retable old.settings s.mgmt.shadow.settings }
  (s1.matchPresence.requestCensus.reconcile old).pickDue

/-- A committed shadow is due to become active at the next assessment: the commit state is PENDING, and no RESTART has
been taken since (R174, R176, log 30). -/
def swapDue (s : Part) : Bool := decide (s.mgmt.commit = .pending) && !s.mgmt.restartArmed

/-- Stage 1: the number increases, wrapping after 65535, and a due swap is made (R26, R174). -/
def stageNumber (s : Part) : Part :=
  let s1 : Part := { s with assess := { s.assess with
    timerAt := s.assess.timerAt + Config.assessMs, number := (s.assess.number + 1) % 65536 } }
  if s.swapDue then s1.swap else s1

/-- Stage 2: the Reserve Unit's part (R15). -/
def stageReserve (s : Part) : Part := { s with reserve := s.reserve.assess s.settings }

/-- Stage 3: the guards (R29..R31). -/
def stageGuards (s : Part) : Part :=
  { s with assess :=
      (s.assess.stepVoltage s.settings s.reserve.monitor s.reserve.vf).stepRuntime s.settings s.reserve.runtime }

/-- Stage 4: critical may be released, which clears CRITICAL and makes a pick due (R45, R104). -/
def stageRelease (s : Part) : Part :=
  let a := s.assess.stepRelease s.settings s.reserve.monitor s.reserve.vf
  let s1 : Part := { s with assess := a }
  if s.assess.critical && !a.critical then { s1 with alerts := { s1.alerts with critical := false } }.pickDue else s1

/-- The state of charge handed to the Assessment Unit (R14, R15). -/
def soc (s : Part) : Option Nat := s.reserve.soc s.settings.cMas

/-- The terms of the escalation demand, band first (R32). -/
def escalationTerms (s : Part) : List (Option Nat) :=
  (s.soc.map s.mgmt.active.band) :: s.assess.guardTerms s.settings s.reserve.monitor

/-- The terms of the restore demand: the band term is shifted by the hysteresis (R33). -/
def restoreTerms (s : Part) : List (Option Nat) :=
  (s.soc.map fun x => s.mgmt.active.band (x - s.settings.hysteresis))
    :: s.assess.guardTerms s.settings s.reserve.monitor

/-- Stage 5: both demands are computed and stored (R32, R33). -/
def stageDemands (s : Part) : Part :=
  { s with assess := { s.assess with
      escalation := AssessUnit.largest s.escalationTerms, restore := AssessUnit.largest s.restoreTerms } }

/-- Sets the restore-hold count. -/
def setHold (s : Part) (n : Nat) : Part := { s with assess := { s.assess with holdCount := n } }

/-- The rise of one tier toward E (R35). -/
def riseOne (s : Part) : Part :=
  s.riseTo (s.assess.depth + 1) (AssessUnit.riseCause s.escalationTerms s.assess.escalation)

/-- The restore-hold count is stepped; at the restore hold the depth falls one tier (R36). -/
def stepHold (s : Part) : Part :=
  if s.assess.restore < s.assess.depth then
    if s.settings.restoreHold ≤ s.assess.holdCount + 1 then s.fallOne else s.setHold (s.assess.holdCount + 1)
  else s.setHold 0

/-- Stage 6: the applied depth is moved, held, or raised to the fallback depth (R35, R36, R38..R40, R44). An unsettled
assessment in LOST that raises nothing sets the restore-hold count to 0, as R38 gives, where R40 keeps it (log 36). -/
def stageMove (s : Part) : Part :=
  if s.assess.critical then s
  else
    match s.reserve.monitor with
    | .awaiting | .stale => if s.assess.unsettled then s.setHold 0 else s
    | .lost =>
      if s.assess.depth < s.assess.fallback then s.riseTo s.assess.fallback .lost
      else if s.assess.unsettled then s.setHold 0
      else if s.assess.depth < s.assess.escalation then s.riseOne
      else s
    | .fresh =>
      if s.assess.unsettled then s.setHold 0
      else if s.assess.depth < s.assess.escalation then s.riseOne
      else s.stepHold

/-- Stage 7: the unsettled mark is cleared (R38). -/
def stageSettle (s : Part) : Part := { s with assess := { s.assess with unsettled := false } }

/-- An assessment: its stages in order, and then the resend of R68 (R27, log 11). -/
def assessNow (s : Part) : Part :=
  s.stageNumber.stageReserve.stageGuards.stageRelease.stageDemands.stageMove.stageSettle.resendAll

end Part

end Sys2Proof.Machine
end

