-- ==== Sys2Proof/Machine/Traffic.lean ====
section
/-! DEFINITION. The traffic path (08): classification and forwarding of received frames, the answers of the Panel
Port, the Load Port's arbiter with the withdrawal test, the ends of attempts, and the hand-over of outcomes. -/

namespace Sys2Proof.Machine

/-! ## Frames the part sends (R136, R139) -/

/-- The header of a frame the part originates: its own node ID as source, spare bits 0 (R136). -/
def ownHead (node : NodeId) (prio : BitVec 2) : Head := { prio := prio, long := false, spare := 0, source := node }

/-- An engine frame; the OPENSET names the members of the opening set as they stand (R124, R127, R139). -/
def EngBody.frame (b : EngBody) (node : NodeId) (openingSet : List Channel) : Frame :=
  match b with
  | .switchOff c => { head := ownHead node 1, kind := kindSwitch, target := channelTarget c, data := [actOff] }
  | .switchOn c => { head := ownHead node 1, kind := kindSwitch, target := channelTarget c, data := [actOn] }
  | .switchLevel c n =>
    { head := ownHead node 1, kind := kindSwitch, target := channelTarget c, data := [actLevel, byteOf n] }
  | .stopreq c => { head := ownHead node 1, kind := kindStopreq, target := channelTarget c, data := [] }
  | .openset => { head := ownHead node 0, kind := kindOpenset, target := broadcast, data := channelSet openingSet }
  | .census ids => { head := ownHead node 3, kind := kindCensus, target := broadcast, data := nodeSet ids }

/-- The kind code and the bytes 3.. of a NOTICE (07 section 7.8). -/
def NoticeBody.bytes : NoticeBody → Byte × List Byte
  | .depth d cause => (1, [byteOf d, byteOf cause.code])
  | .channel c st => (2, [byteOf c.val, byteOf st.code])
  | .monitor m => (3, [byteOf m.code])
  | .module n p => (4, [n.zeroExtend 8, byteOf p.code])
  | .commit r => (5, [byteOf r])

/-- A NOTICE frame (R182). -/
def NoticeEntry.frame (e : NoticeEntry) (node : NodeId) : Frame :=
  { head := ownHead node 2, kind := kindNotice, target := broadcast
    data := [e.body.bytes.1, byteOf (bit e.lost 7), byteOf e.number] ++ e.body.bytes.2 }

/-- A head in its retry pause is not eligible (R159, R163). -/
def inPause (now : Nat) (pauseEnd : Option Nat) : Bool :=
  match pauseEnd with
  | none => false
  | some t => decide (now < t)

namespace Part

/-! ## The Panel Port's answers -/

/-- What the Panel Port gives in the answer field of the frame that has arrived (R142, R144). -/
def give (s : Part) (a : Answer) : Part :=
  { s with panel := { s.panel with
      answer := a
      port := { s.panel.port with position := if a = .none then .frameEnd else .answerField } } }

/-- A VERDICT byte (R142). -/
def giveVerdict (s : Part) (v : Byte) : Part := s.give (.verdict v)

/-- A DATA answer (R144). -/
def giveData (s : Part) (bytes : List Byte) : Part := s.give (.data bytes)

/-- The bytes of an answer as they go out: a DATA answer is followed by its check byte (R144). -/
def wire : Answer → List Byte
  | .none => []
  | .verdict v => [v]
  | .data bytes => bytes ++ [crc8 bytes]

/-! ## Forwarding -/

/-- The load forward queue holds 8 frames (R153). -/
def forwardFull (s : Part) : Bool := decide (Config.queueCap ≤ s.load.forward.length)

/-- The node a forwarded frame is tied to: a channel's owning module, or a roster node ID (R118, R153); a forwarded
CENSUS or OPENSET too (DESIGN CHOICE, log 41). -/
def tieOf (s : Part) (t : BitVec 7) : Option NodeId :=
  match targetClass t with
  | .channel c => s.owner c
  | .node n => if s.mgmt.active.rosterNodes.contains n then some n else none
  | .broadcast | .unassigned => none

/-- A panel frame is placed in the load forward queue unchanged, with its tie (R153). -/
def placeForward (s : Part) (f : Frame) : Part :=
  { s with load := { s.load with
      forward := s.load.forward ++ [{ frame := f, tie := s.tieOf f.target, attempts := 0, pauseEnd := none }] } }

/-- PASSED with its effects while the load forward queue has room; BUSY, which changes nothing, when it is full
(R61). -/
def passed (s : Part) (f : Frame) (act : Part → Part) : Part :=
  if s.forwardFull then s.giveVerdict verBusy else (act (s.placeForward f)).giveVerdict verPassed

/-- A load frame is placed in the panel forward queue, or dropped when it is full (R154). -/
def placePanel (s : Part) (f : Frame) : Part :=
  if s.panel.forward.length < Config.queueCap then
    { s with panel := { s.panel with
        forward := s.panel.forward ++ [{ frame := f, tie := none, attempts := 0, pauseEnd := none }] } }
  else s

/-! ## Arrivals (R138, R145, R151) -/

/-- A frame arrives on the panel segment: an ACTIVE port takes it, and drops it unanswered when its source is the
part's own node ID (R138, R145). -/
def panelArrival (s : Part) (f : Frame) (act : Part → Part) : Part :=
  if s.panel.port.state = .active ∧ f.fits then
    if f.head.source = s.nodeId then s.give .none else act s
  else s

/-- The passage of a load frame to the panel segment, by its target (R154). -/
def passage (s : Part) (f : Frame) : Part :=
  match targetClass f.target with
  | .broadcast | .channel _ | .unassigned => s.placePanel f
  | .node n => if n = s.nodeId ∨ s.mgmt.active.rosterNodes.contains n then s else s.placePanel f

/-- The receive position of the Load Port after a frame it gives no answer to. -/
def loadFrameEnd (s : Part) : Part :=
  { s with load := { s.load with port := { s.load.port with position := .frameEnd } } }

/-- The answer field of another node's frame is collected: each ID of a roll that answers its CENSUS or OPENSET is a
hearing and meets the unlisted-node test. A verdict there is tied to no frame of the part's, and no other answer is
read for a meaning (R119, R126, R139, R143, R145). -/
def collectAnswer (s : Part) (f : Frame) (roll : List Byte) : Part :=
  if answerKind f.kind = .roll then s.rollAll (rollIds roll) else s

/-- A frame arrives on the load segment: its unit acts, then it is a hearing of its source, then it is judged for
forwarding (log 7), and after that its answer field is collected (R145, R154, log 40). A frame with the part's own node
ID as its source is dropped, and no ID of a roll that follows it is heard (R138; DESIGN CHOICE for the roll, log 45). -/
def loadArrival (s : Part) (f : Frame) (roll : List Byte) (unit : Part → Part) : Part :=
  if s.load.port.state = .active ∧ f.fits then
    if f.head.source = s.nodeId then s.loadFrameEnd
    else ((((unit s).hearing f.head.source).passage f).collectAnswer f roll).loadFrameEnd
  else s

/-! ## Samples (R1, R2, R3, R8) -/

/-- A change of monitor state gives a MONITOR notice, and MONITOR_LOST follows the state (R8). -/
def monitorNotice (s : Part) (old : MonitorState) : Part :=
  if s.reserve.monitor = old then s
  else
    let s1 : Part := { s with alerts := { s.alerts with monitorLost := decide (s.reserve.monitor = MonitorState.lost) } }
    s1.notify (.monitor s.reserve.monitor)

/-- An accepted sample: the Reserve Unit's stages, the MONITOR notice of a change, and the critical-entry signal when
it is due (R3, R8, R20). -/
def acceptSample (s : Part) (d : SampleData) : Part :=
  let r := s.reserve.accept s.settings s.now d
  let s0 : Part := { s with reserve := r }
  let s1 := s0.monitorNotice s.reserve.monitor
  if r.signals s.settings then s1.criticalSignal else s1

/-- A SAMPLE offered to the Reserve Unit: taken when it comes from the active monitor node with 5 bytes of data,
and dropped as a duplicate when its sequence is the last one (R1, R2). -/
def offerSample (s : Part) (source : NodeId) (data : List Byte) : Part :=
  match sampleData data with
  | none => s
  | some d =>
    if source.toNat = s.settings.monitorNode ∧ s.reserve.lastSeq ≠ some d.seq then s.acceptSample d else s

/-! ## Panel frames (R61, R62, R152, R153) -/

/-- Intent set from a SWITCH action (R50). -/
def setIntent (s : Part) (c : Channel) (i : Intent) : Part := s.modChan c fun r => { r with intent := some i }

/-- A panel SWITCH OFF, by the channel's state (R62). -/
def switchOff (s : Part) (f : Frame) (c : Channel) : Part :=
  match s.chans[c].state with
  | .unknown | .live | .barred | .restoring => s.passed f fun s => s.setIntent c .off
  | .shedding => s.passed f fun s => (((s.setIntent c .off).abort c).unlist c).enterBarred c
  | .shed => s.passed f fun s => ((s.setIntent c .off).unlist c).enterBarred c
  | .overridden => s.passed f fun s =>
    let s1 := (s.setIntent c .off).freeOverrideOf c
    if s1.inZone c then s1.enterBarred c else s1.enter c .live
  | .released => s.passed f id

/-- A panel SWITCH ON or LEVEL, by the channel's state (R62). The shed terminal of a BARRED channel stands (log 13), and
its entry to SHED makes a pick due (R104). -/
def switchTo (s : Part) (f : Frame) (c : Channel) (i : Intent) : Part :=
  match s.chans[c].state with
  | .unknown | .live | .restoring | .overridden => s.passed f fun s => s.setIntent c i
  | .shedding | .shed => (s.setIntent c i).giveVerdict verHeld
  | .barred => (((s.setIntent c i).push c).enterShed c).giveVerdict verHeld
  | .released => s.passed f id

/-- A malformed panel SWITCH: REFUSED, but PASSED for a RELEASED channel unless its action is BOOST (R61). -/
def switchBad (s : Part) (f : Frame) (c : Channel) : Part :=
  if s.chans[c].state = .released ∧ !actionIsBoost f.data then s.passed f id else s.giveVerdict verRefused

/-- A panel BOOST: BOOSTED with its effects when granted, else REFUSED (R63). -/
def boostFrame (s : Part) (c : Channel) (minutes : Byte) : Part :=
  if s.boostGranted c minutes then (s.grantBoost c minutes).giveVerdict verBoosted else s.giveVerdict verRefused

/-- A panel SWITCH to a channel, by its data (R61..R63). LEVEL 100 is the intent ON (R50). -/
def switchFrame (s : Part) (f : Frame) (c : Channel) : Part :=
  match f.data with
  | [a] =>
    if a = actOff then s.switchOff f c
    else if a = actOn then s.switchTo f c .on
    else s.switchBad f c
  | [a, n] =>
    if a = actLevel ∧ 1 ≤ n.toNat ∧ n.toNat ≤ 100 then s.switchTo f c (Intent.ofLevel n.toNat)
    else if a = actBoost ∧ n ≠ 0 then s.boostFrame c n
    else s.switchBad f c
  | _ => s.switchBad f c

/-- A panel frame of another kind for the load forward queue: PASSED or BUSY when its kind carries a VERDICT, and no
answer otherwise, where a full queue drops it without a sign (R153). -/
def forwardPanel (s : Part) (f : Frame) : Part :=
  if answerKind f.kind = .verdict then s.passed f id
  else if s.forwardFull then s.give .none else (s.placeForward f).give .none

/-! ## Ends of attempts at the Load Port (R160..R162) -/

/-- The attempt on the bus has ended: the port is free, in the frame-end pause. -/
def loadFree (s : Part) : Part :=
  { s with load := { s.load with sending := none, port := { s.load.port with position := .frameEnd } } }

/-- The engine frame whose attempt is on the bus. -/
def onEngine (s : Part) : Option EngEntry := if s.load.sending = some .engine then s.load.engine.head? else none

/-- The forwarded frame whose attempt is on the bus. -/
def onForward (s : Part) : Option FwdEntry := if s.load.sending = some .forward then s.load.forward.head? else none

/-- This attempt is a frame's last (R160). -/
def lastAttempt (attempts : Nat) : Bool := decide (Config.maxAttempts ≤ attempts + 1)

/-- The outcome of a boost switch-on sets or clears the confirmed mark while the channel is OVERRIDDEN (R60, R65). -/
def boostOutcome (s : Part) (c : Channel) (o : CmdOutcome) : Part :=
  if s.chans[c].state = .overridden then s.modChan c fun r => { r with confirmed := decide (o = .done) } else s

/-- The outcome of a repeated terminal sets or clears the confirmed mark while the channel is SHED, and clears the
terminal in flight mark unless a later terminal command stands (R60, R67). -/
def resendOutcome (s : Part) (c : Channel) (o : CmdOutcome) : Part :=
  (if s.chans[c].state = .shed then s.modChan c fun r => { r with confirmed := decide (o = .done) }
   else s).staleTerminal c

/-- The outcome of an engine frame without a roll, at its requester (R88, R82, R107, R59, R65, R67, R124, R129). -/
def requesterOutcome (s : Part) (e : EngEntry) (o : CmdOutcome) : Part :=
  match e.purpose, e.body.channel with
  | .terminal ctx, some c => s.terminalOutcome c ctx o
  | .stopreq ctx, some c => s.stopreqOutcome c ctx o
  | .restore, some c => s.restoreOutcome c o
  | .resume, some c => s.endRestoring c o
  | .boostOn, some c => s.boostOutcome c o
  | .resend, some c => s.resendOutcome c o
  | .census, _ => s.censusRoundDone []
  | .openset, _ => s.opensetDone []
  | _, none => s

/-- The head of the engine queue is marked as leaving (log 9). -/
def markHead : List EngEntry → List EngEntry
  | [] => []
  | e :: rest => { e with leaving := true } :: rest

/-- The head engine frame's attempts are over, or it is withdrawn: its outcome is handed over by `f`, and then it
leaves the queue and its slot is granted (R160). -/
def handOver (s : Part) (f : Part → Part) : Part :=
  (f { s with load := { s.load with engine := markHead s.load.engine } }).depart

/-- The attempt of the head engine frame on the bus has ended its attempts (R160). -/
def finish (s : Part) (f : Part → Part) : Part := s.loadFree.handOver f

/-- The head engine frame is withdrawn unsent (R72, R128). -/
def withdraw (s : Part) (e : EngEntry) : Part :=
  s.handOver fun s => (s.presenceOutcome e.tie .withdrawn).requesterOutcome e .withdrawn

/-- The outcome of the head engine frame, handed to the Roster Unit and then to its requester (R160). -/
def finishWith (s : Part) (e : EngEntry) (o : CmdOutcome) : Part :=
  s.finish fun s => (s.presenceOutcome e.tie o).requesterOutcome e o

/-- The head forwarded frame leaves the load forward queue (R155). -/
def dropForward (s : Part) : Part := { s.loadFree with load := { s.loadFree.load with forward := s.load.forward.tail } }

/-- A first or second attempt has ended without an answer or was cut off: the frame stays at its head and begins a
retry pause of 100 ms (R160, R161). -/
def startPause (s : Part) : Part :=
  let engine : List EngEntry → List EngEntry
    | [] => []
    | e :: rest => { e with attempts := e.attempts + 1, pauseEnd := some (s.now + Config.retryMs) } :: rest
  let forward : List FwdEntry → List FwdEntry
    | [] => []
    | e :: rest => { e with attempts := e.attempts + 1, pauseEnd := some (s.now + Config.retryMs) } :: rest
  match s.load.sending with
  | some .engine => { s.loadFree with load := { s.loadFree.load with engine := engine s.load.engine } }
  | some .forward => { s.loadFree with load := { s.loadFree.load with forward := forward s.load.forward } }
  | none => s

/-- The kind of a forwarded frame has its answer collected: VERDICT or ROLL (R160, R161). -/
def collects (f : Frame) : Bool := answerKind f.kind == .verdict || answerKind f.kind == .roll

/-- The Load Port's attempt ends with no answer, or cut off by a bit error or by SILENT: a retry pause, or at the
third the outcome *no answer*; a frame whose answer is not collected is then discarded without an outcome
(R160, R161, R165, log 17). -/
def attemptFails (s : Part) : Part :=
  match s.onEngine, s.onForward with
  | some e, _ => if lastAttempt e.attempts then s.finishWith e .noAnswer else s.startPause
  | none, some e =>
    if lastAttempt e.attempts then
      if collects e.frame then s.dropForward.presenceOutcome e.tie .noAnswer else s.dropForward
    else s.startPause
  | none, none => s

/-- The attempts of the engine frame on the bus end with a verdict, or with none at the last attempt; the event is
that of a frame with the purpose `want`, and nothing happens otherwise (R142, R160, log 3). -/
def verdictEnd (s : Part) (want : Purpose → Bool) (ans : List Byte) : Part :=
  match s.onEngine with
  | none => s
  | some e =>
    if want e.purpose then
      match verdictOf ans with
      | some o => s.finishWith e o
      | none => if lastAttempt e.attempts then s.finishWith e .noAnswer else s
    else s

/-- The attempts of the CENSUS or OPENSET on the bus end with a roll, or with none at the last attempt (R143, R160). -/
def rollEnd (s : Part) (want : Purpose → Bool) (done : Part → List NodeId → Part) (ans : List Byte) : Part :=
  match s.onEngine with
  | none => s
  | some e =>
    if want e.purpose ∧ (rollIds ans ≠ [] ∨ lastAttempt e.attempts) then s.finish fun s => done s (rollIds ans) else s

/-- The attempts of a forwarded frame whose answer is collected end; its outcome goes to the Roster Unit alone
(R162). -/
def forwardEnd (s : Part) (ans : List Byte) : Part :=
  match s.onForward with
  | none => s
  | some e =>
    match answerKind e.frame.kind with
    | .verdict =>
      match verdictOf ans with
      | some o => s.dropForward.presenceOutcome e.tie o
      | none => if lastAttempt e.attempts then s.dropForward.presenceOutcome e.tie .noAnswer else s
    | .roll =>
      if rollIds ans ≠ [] then s.dropForward.rollAll (rollIds ans)
      else if lastAttempt e.attempts then s.dropForward.presenceOutcome e.tie .noAnswer else s
    | .data | .none => s

/-! ## The Load Port's arbiter (R159) and the withdrawal test (R72, R128) -/

end Part

/-- The port is ACTIVE and in the middle of no frame: a port in the header and data with no attempt of its own is
receiving the winner of an arbitration that it lost (R137). -/
def PortCore.idle (p : PortCore) : Bool := decide (p.state = .active ∧ p.position ≠ .headerData)

namespace Part

/-- The head of the engine queue is eligible (R159). -/
def engineReady (s : Part) : Bool := (s.load.engine.head?.map fun e => !inPause s.now e.pauseEnd).getD false

/-- The head of the load forward queue is eligible (R159). -/
def forwardReady (s : Part) : Bool := (s.load.forward.head?.map fun e => !inPause s.now e.pauseEnd).getD false

/-- The arbiter's choice (R159). -/
def choice (s : Part) : Option LoadQ :=
  if s.engineReady then
    if s.forwardReady && decide (Config.engineRun ≤ s.load.engineCount) then some .forward else some .engine
  else if s.forwardReady then some .forward
  else none

/-- An engine frame that R72 withdraws: a SWITCH OFF, a terminal's SWITCH LEVEL or a STOPREQ for a channel that is now
tier 0 or RELEASED. -/
def withdrawn (s : Part) (e : EngEntry) : Bool :=
  match e.body with
  | .switchOff c | .stopreq c => s.exempt c
  | .switchLevel c _ => e.purpose.isTerminal && s.exempt c
  | .switchOn _ | .openset | .census _ => false

/-- The withdrawal test of each engine frame chosen, until the choice stands: a withdrawn frame leaves the queue and
the arbiter chooses again; the exempt members of an OPENSET are taken out, and an OPENSET left empty is withdrawn
(R72, R128, R159). `fuel` bounds the frames withdrawn. -/
def testHeads : Nat → Part → Part
  | 0, s => s
  | fuel + 1, s =>
    if s.choice = some .engine then
      match s.load.engine.head? with
      | none => s
      | some e =>
        if e.body = .openset then
          let s1 := s.takeOut
          if s1.roster.openingSet = [] then testHeads fuel (s1.withdraw e) else s1
        else if s.withdrawn e then testHeads fuel (s.withdraw e)
        else s
    else s

/-- Every engine frame and awaiting command can be withdrawn once, and so can the frames that a withdrawn opening
leaves behind. -/
def testFuel (s : Part) : Nat :=
  s.load.engine.length + s.load.awaiting.length + s.roster.openingSet.length + s.roster.further.length + 4

/-- The arbiter's choice passes the withdrawal test (R72, R128). -/
def choiceStands (s : Part) : Bool :=
  match s.choice, s.load.engine.head? with
  | some .engine, some e =>
    if e.body = .openset then !s.roster.openingSet.isEmpty && s.roster.openingSet.all fun c => !s.exempt c
    else !s.withdrawn e
  | _, _ => true

/-- An attempt of the chosen head begins, and the engine count is stepped (R159). -/
def beginAttempt (s : Part) : Part :=
  match s.choice with
  | none => s
  | some .engine =>
    { s with load := { s.load with
        sending := some .engine
        engineCount := if s.forwardReady then s.load.engineCount + 1 else 0
        port := { s.load.port with position := .headerData } } }
  | some .forward =>
    { s with load := { s.load with
        sending := some .forward, engineCount := 0, port := { s.load.port with position := .headerData } } }

/-- The Load Port is ACTIVE and free to send a start mark: it has no attempt on the bus, and is not receiving the frame
that won an arbitration against it (R137, R159). -/
def loadFreeToSend (s : Part) : Bool := s.load.port.idle && s.load.sending.isNone

/-- The Load Port sends (R159). -/
def loadSend (s : Part) : Part :=
  if s.loadFreeToSend then
    let s1 := testHeads s.testFuel s
    if s1.choiceStands then s1.beginAttempt else s1
  else s

/-- The frame the arbiter has chosen. -/
def loadChosen (s : Part) : Option Frame :=
  match s.choice with
  | none => none
  | some .engine => s.load.engine.head?.map fun e => e.body.frame s.nodeId s.roster.openingSet
  | some .forward => s.load.forward.head?.map FwdEntry.frame

/-! ## The Panel Port's sending (R163) -/

/-- The Panel Port's choice: the head of the notice queue unless it is in its retry pause, and otherwise the head of
the panel forward queue (R163). -/
def panelChoice (s : Part) : Option PanelQ :=
  if (s.panel.notices.head?.map fun e => !inPause s.now e.pauseEnd).getD false then some .notice
  else if (s.panel.forward.head?.map fun e => !inPause s.now e.pauseEnd).getD false then some .forward
  else none

/-- The Panel Port is ACTIVE and free to send a start mark, as at the Load Port (R137, R163). -/
def panelFreeToSend (s : Part) : Bool := s.panel.port.idle && s.panel.sending.isNone

/-- The Panel Port sends; it collects no answer (R163). -/
def panelSend (s : Part) : Part :=
  if s.panelFreeToSend ∧ s.panelChoice.isSome then
    { s with panel := { s.panel with
        sending := s.panelChoice, answer := .none, port := { s.panel.port with position := .headerData } } }
  else s

/-- The frame the Panel Port has chosen. -/
def panelChosen (s : Part) : Option Frame :=
  match s.panelChoice with
  | none => none
  | some .notice => s.panel.notices.head?.map fun e => e.frame s.nodeId
  | some .forward => s.panel.forward.head?.map FwdEntry.frame

/-- The Panel Port's attempt has ended: the port is free, in the frame-end pause. -/
def panelFree (s : Part) : Part :=
  { s with panel := { s.panel with sending := none, port := { s.panel.port with position := .frameEnd } } }

/-- The frame the Panel Port was sending leaves its queue (R163). -/
def panelDrop (s : Part) : Part :=
  match s.panel.sending with
  | none => s
  | some .notice => { s.panelFree with panel := { s.panelFree.panel with notices := s.panel.notices.tail } }
  | some .forward => { s.panelFree with panel := { s.panelFree.panel with forward := s.panel.forward.tail } }

/-- The Panel Port's attempt is cut off: a retry pause of 100 ms, and after the third the frame is discarded (R163). -/
def panelFails (s : Part) : Part :=
  match s.panel.sending with
  | none => s
  | some .notice =>
    match s.panel.notices with
    | [] => s.panelFree
    | e :: rest =>
      if lastAttempt e.attempts then s.panelDrop
      else { s.panelFree with panel := { s.panelFree.panel with
        notices := { e with attempts := e.attempts + 1, pauseEnd := some (s.now + Config.retryMs) } :: rest } }
  | some .forward =>
    match s.panel.forward with
    | [] => s.panelFree
    | e :: rest =>
      if lastAttempt e.attempts then s.panelDrop
      else { s.panelFree with panel := { s.panelFree.panel with
        forward := { e with attempts := e.attempts + 1, pauseEnd := some (s.now + Config.retryMs) } :: rest } }

/-- The Load Port has sent the check byte of a forwarded frame whose answer is not collected: it leaves the queue
(R161). -/
def loadSent (s : Part) : Part :=
  match s.onForward with
  | none => s
  | some e => if collects e.frame then s else s.dropForward

end Part

end Sys2Proof.Machine
end

