-- ==== Sys2Proof/Machine/Management.lean ====
section
/-! DEFINITION. The Management Unit (09): the management commands with their tests in the order of R169, their effects
and their DATA answers. -/

namespace Sys2Proof.Machine

/-! ## Records of the tables by index -/

/-- LOAD of one record into a copy of the tables, and whether a field was clamped (R170, R171). -/
def Tables.loadRecord (t : Tables) (tb : TableId) (i : Nat) (bs : List Byte) : Tables × Bool :=
  match tb with
  | .settings => ({ t with settings := (Settings.load bs).1 }, (Settings.load bs).2)
  | .bands => ({ t with bands := t.bands.setIfInBounds i (Band.load bs).1 }, (Band.load bs).2)
  | .channels => ({ t with channels := t.channels.setIfInBounds i (ChannelCfg.load bs).1 }, (ChannelCfg.load bs).2)
  | .roster => ({ t with roster := t.roster.setIfInBounds i (RosterEntry.load bs).1 }, (RosterEntry.load bs).2)

/-- LOAD of `count` records laid end to end, from index `first` on (R170). -/
def Tables.loadRecords (tb : TableId) : Nat → Nat → List Byte → Tables → Tables × Bool
  | 0, _, _, t => (t, false)
  | count + 1, first, bs, t =>
    let one := t.loadRecord tb first (bs.take tb.size)
    let rest := Tables.loadRecords tb count (first + 1) (bs.drop tb.size) one.1
    (rest.1, one.2 || rest.2)

/-- The bytes of one record; none past the table's end (R177). -/
def Tables.recordBytes (t : Tables) (tb : TableId) (i : Nat) : List Byte :=
  match tb with
  | .settings => t.settings.encode
  | .bands => (t.bands[i]?.map Band.encode).getD []
  | .channels => (t.channels[i]?.map ChannelCfg.encode).getD []
  | .roster => (t.roster[i]?.map RosterEntry.encode).getD []

namespace Part

/-- The answer to a failed test: the result code alone, and nothing else changes (R169). -/
def fails (s : Part) (result : Byte) : Part := s.giveData [result]

/-- The answer OK alone. -/
def givesOk (s : Part) : Part := s.giveData [resOk]

/-! ## The commands, by their argument bytes -/

/-- LOAD, once the tests of its form have passed: BUSY in PENDING, else the named records of the shadow (R170). -/
def loadShadow (s : Part) (tb : TableId) (first count : Nat) (records : List Byte) : Part :=
  if s.mgmt.commit = .pending then s.fails resBusy
  else
    let r := Tables.loadRecords tb count first records s.mgmt.shadow
    let s1 : Part := { s with mgmt := { s.mgmt with shadow := r.1 } }
    s1.giveData [if r.2 then resClamped else resOk]

/-- LOAD: table, first index, count, records (R169, R170, log 25). -/
def mgmtLoad (s : Part) (args : List Byte) : Part :=
  match args with
  | [] => s.fails resBadRequest
  | t :: rest =>
    match tableOf t with
    | none => s.fails resBadTable
    | some tb =>
      match rest with
      | first :: count :: records =>
        if count = 0 ∨ records.length ≠ count.toNat * tb.size then s.fails resBadRequest
        else if tb.records < first.toNat + count.toNat then s.fails resBadIndex
        else s.loadShadow tb first.toNat count.toNat records
      | _ => s.fails resBadRequest

/-- COMMIT: taken in IDLE; INVALID with table, record and reason, or OK and PENDING (R173, R176). -/
def mgmtCommit (s : Part) (args : List Byte) : Part :=
  if args ≠ [] then s.fails resBadRequest
  else if s.mgmt.commit ≠ .idle then s.fails resBusy
  else
    match s.mgmt.shadow.check s.nodeId with
    | some v => s.giveData [resInvalid, byteOf v.table, byteOf v.record, byteOf v.reason]
    | none =>
      let s1 : Part := { s with mgmt := { s.mgmt with commit := .pending } }
      s1.givesOk

/-- DISCARD: the active tables are copied into the shadow; BUSY in PENDING (R176). -/
def mgmtDiscard (s : Part) (args : List Byte) : Part :=
  if args ≠ [] then s.fails resBadRequest
  else if s.mgmt.commit = .pending then s.fails resBusy
  else
    let s1 : Part := { s with mgmt := { s.mgmt with shadow := s.mgmt.active } }
    s1.givesOk

/-- READ: table, index, byte offset; up to 15 bytes of the active record (R169, R177). -/
def mgmtRead (s : Part) (args : List Byte) : Part :=
  match args with
  | [] => s.fails resBadRequest
  | t :: rest =>
    match tableOf t with
    | none => s.fails resBadTable
    | some tb =>
      match rest with
      | [i, offset] =>
        if tb.records ≤ i.toNat ∨ tb.size ≤ offset.toNat then s.fails resBadIndex
        else s.giveData (resOk :: ((s.mgmt.active.recordBytes tb i.toNat).drop offset.toNat).take 15)
      | _ => s.fails resBadRequest

/-- The 14 bytes of a STATUS answer (R178, 07 section 7.8). -/
def statusBytes (s : Part) : List Byte :=
  [byteOf (s.assess.escalation * 16 + s.assess.depth),
    byteOf (s.mgmt.commit.code * 64 + s.reserve.monitor.code * 16 + s.assess.restore)]
  ++ be16 ((s.reserve.soc s.settings.cMas).getD 0xFFFF) ++ be16 s.reserve.vf ++ be16s s.reserve.cur
  ++ be16 (s.reserve.runtime.getD 0)
  ++ [byteOf (bit s.reserve.valid 7 + bit s.reserve.runtime.isSome 6 + bit s.assess.critical 5
      + bit s.assess.unsettled 4 + bit s.roster.unlisted 3), s.alerts.byte]
  ++ be16 s.assess.number

/-- STATUS (R178). -/
def mgmtStatus (s : Part) (args : List Byte) : Part :=
  if args ≠ [] then s.fails resBadRequest else s.giveData (resOk :: s.statusBytes)

/-- Whole seconds, truncated, until a time; 0 once it is reached (R80, R101). -/
def secondsTo (s : Part) (t : Nat) : Nat := (t - s.now) / 1000

/-- Seconds to the ready time of a SHED channel, 0 when it is reached; absent in every other state (R101, R103). -/
def secondsToReady (s : Part) (c : Channel) : Option Nat :=
  if s.chans[c].state = .shed then some (((s.readyTime c).map s.secondsTo).getD 0) else none

/-- The mark byte of a CHANNEL answer (07 section 7.8). -/
def markByte (s : Part) (c : Channel) : Byte :=
  let r : ChanRec := s.chans[c]
  byteOf (bit r.managed 7 + bit r.confirmed 6 + bit r.unreachable 5 + bit r.inFlight 4 + bit r.resend 3
    + bit r.offSince.isSome 2 + bit ((s.ctxs[c].map Context.requestSent).getD false) 1
    + bit (s.overrideOf c).isSome 0)

/-- A one-byte field, 0xFF when absent. -/
def orFF (v : Option Nat) : Byte := byteOf (v.getD 0xFF)

/-- The 14 bytes of a CHANNEL answer (R178, 07 section 7.8). -/
def channelBytes (s : Part) (c : Channel) : List Byte :=
  let r : ChanRec := s.chans[c]
  let x : Option Context := s.ctxs[c]
  [byteOf r.state.code, orFF (r.intent.map Intent.code), s.markByte c, orFF r.level, orFF r.current,
    orFF (r.status.map Appliance.code), orFF (r.terminal.map Terminal.code), orFF (s.seq.list.findIdx? (· == c))]
  ++ be16 ((s.secondsToReady c).getD 0xFFFF)
  ++ [orFF (x.map Context.index), orFF (x.map fun x => x.awaited.code)]
  ++ be16 (((x.bind Context.deadline).map s.secondsTo).getD 0xFFFF)

/-- CHANNEL n (R169, R178). -/
def mgmtChannel (s : Part) (args : List Byte) : Part :=
  match args with
  | [n] =>
    match channelOf n.toNat with
    | none => s.fails resBadIndex
    | some c => s.giveData (resOk :: s.channelBytes c)
  | _ => s.fails resBadRequest

/-- LIMITS: table, field number (R169, R172). -/
def mgmtLimits (s : Part) (args : List Byte) : Part :=
  match args with
  | [] => s.fails resBadRequest
  | t :: rest =>
    match tableOf t with
    | none => s.fails resBadTable
    | some tb =>
      match rest with
      | [field] =>
        match tb.limits[field.toNat]? with
        | none => s.fails resBadIndex
        | some p => s.giveData (resOk :: (be16 p.1 ++ be16 p.2))
      | _ => s.fails resBadRequest

/-- SET_RESERVE p, CLAMPED when p exceeds 1000 (R22, R179). -/
def mgmtSetReserve (s : Part) (args : List Byte) : Part :=
  match args with
  | [hi, lo] =>
    let p := ofBe16 hi lo
    let s1 : Part := { s with reserve := s.reserve.setTo p s.settings.cMas }
    s1.giveData [if 1000 < p then resClamped else resOk]
  | _ => s.fails resBadRequest

/-- CENSUS: a census is requested, and the answer is OK in every census state (R123, R179). -/
def mgmtCensus (s : Part) (args : List Byte) : Part :=
  if args ≠ [] then s.fails resBadRequest else s.requestCensus.givesOk

/-- RELEASE n (R70, R179). -/
def mgmtRelease (s : Part) (args : List Byte) : Part :=
  match args with
  | [n] => if 47 < n.toNat then s.fails resBadIndex else (s.releaseFrom n.toNat).givesOk
  | _ => s.fails resBadRequest

/-- RETAIN n (R71, R179). -/
def mgmtRetain (s : Part) (args : List Byte) : Part :=
  match args with
  | [n] => if 47 < n.toNat then s.fails resBadIndex else (s.retainFrom n.toNat).givesOk
  | _ => s.fails resBadRequest

/-- RESTART: OK in IDLE and PENDING, arranging the management reset; BUSY in WRITING (R176, R180). -/
def mgmtRestart (s : Part) (args : List Byte) : Part :=
  if args ≠ [] then s.fails resBadRequest
  else if s.mgmt.commit = .writing then s.fails resBusy
  else
    let s1 : Part := { s with mgmt := { s.mgmt with restartArmed := true } }
    s1.givesOk

/-! ## Management frames -/

/-- The command codes (07 section 7.8). -/
def codeLoad       : Byte := 0x01
def codeCommit     : Byte := 0x02
def codeDiscard    : Byte := 0x03
def codeRead       : Byte := 0x04
def codeStatus     : Byte := 0x05
def codeChannel    : Byte := 0x06
def codeLimits     : Byte := 0x07
def codeSetReserve : Byte := 0x08
def codeCensus     : Byte := 0x09
def codeRelease    : Byte := 0x0A
def codeRetain     : Byte := 0x0B
def codeRestart    : Byte := 0x0C

/-- A management frame's data at the Management Unit: no data or an unknown command code is a BAD_REQUEST, test 1 of
R169. -/
def manage (s : Part) (data : List Byte) : Part :=
  match data with
  | [] => s.fails resBadRequest
  | code :: args =>
    if code = codeLoad then s.mgmtLoad args
    else if code = codeCommit then s.mgmtCommit args
    else if code = codeDiscard then s.mgmtDiscard args
    else if code = codeRead then s.mgmtRead args
    else if code = codeStatus then s.mgmtStatus args
    else if code = codeChannel then s.mgmtChannel args
    else if code = codeLimits then s.mgmtLimits args
    else if code = codeSetReserve then s.mgmtSetReserve args
    else if code = codeCensus then s.mgmtCensus args
    else if code = codeRelease then s.mgmtRelease args
    else if code = codeRetain then s.mgmtRetain args
    else if code = codeRestart then s.mgmtRestart args
    else s.fails resBadRequest

/-- The frame that carries management data to the part. -/
def mgmtFrame (s : Part) (head : Head) (data : List Byte) : Frame :=
  { head := head, kind := kindMgmt, target := nodeTarget s.nodeId, data := data }

/-- A management frame arrives on the panel segment (R138, R145, R152). -/
def mgmtArrival (s : Part) (head : Head) (data : List Byte) (act : Part → Part) : Part :=
  s.panelArrival (s.mgmtFrame head data) act

end Part

/-! ## The commands -/

/-- LOAD (R170). -/
def execLoad (dt : Nat) (h : Head) (args : List Byte) (s : State) : Outcome :=
  event s dt fun m => m.mgmtArrival h (Part.codeLoad :: args) fun m => m.mgmtLoad args

/-- COMMIT (R173). -/
def execCommit (dt : Nat) (h : Head) (args : List Byte) (s : State) : Outcome :=
  event s dt fun m => m.mgmtArrival h (Part.codeCommit :: args) fun m => m.mgmtCommit args

/-- DISCARD (R176). -/
def execDiscard (dt : Nat) (h : Head) (args : List Byte) (s : State) : Outcome :=
  event s dt fun m => m.mgmtArrival h (Part.codeDiscard :: args) fun m => m.mgmtDiscard args

/-- READ (R177). -/
def execRead (dt : Nat) (h : Head) (args : List Byte) (s : State) : Outcome :=
  event s dt fun m => m.mgmtArrival h (Part.codeRead :: args) fun m => m.mgmtRead args

/-- STATUS (R178). -/
def execStatus (dt : Nat) (h : Head) (args : List Byte) (s : State) : Outcome :=
  event s dt fun m => m.mgmtArrival h (Part.codeStatus :: args) fun m => m.mgmtStatus args

/-- CHANNEL (R178). -/
def execChannel (dt : Nat) (h : Head) (args : List Byte) (s : State) : Outcome :=
  event s dt fun m => m.mgmtArrival h (Part.codeChannel :: args) fun m => m.mgmtChannel args

/-- LIMITS (R172). -/
def execLimits (dt : Nat) (h : Head) (args : List Byte) (s : State) : Outcome :=
  event s dt fun m => m.mgmtArrival h (Part.codeLimits :: args) fun m => m.mgmtLimits args

/-- SET_RESERVE (R22, R179). -/
def execSetReserve (dt : Nat) (h : Head) (args : List Byte) (s : State) : Outcome :=
  event s dt fun m => m.mgmtArrival h (Part.codeSetReserve :: args) fun m => m.mgmtSetReserve args

/-- CENSUS (R123, R179). -/
def execCensus (dt : Nat) (h : Head) (args : List Byte) (s : State) : Outcome :=
  event s dt fun m => m.mgmtArrival h (Part.codeCensus :: args) fun m => m.mgmtCensus args

/-- RELEASE (R70, R179). -/
def execRelease (dt : Nat) (h : Head) (args : List Byte) (s : State) : Outcome :=
  event s dt fun m => m.mgmtArrival h (Part.codeRelease :: args) fun m => m.mgmtRelease args

/-- RETAIN (R71, R179). -/
def execRetain (dt : Nat) (h : Head) (args : List Byte) (s : State) : Outcome :=
  event s dt fun m => m.mgmtArrival h (Part.codeRetain :: args) fun m => m.mgmtRetain args

/-- RESTART (R176, R180). -/
def execRestart (dt : Nat) (h : Head) (args : List Byte) (s : State) : Outcome :=
  event s dt fun m => m.mgmtArrival h (Part.codeRestart :: args) fun m => m.mgmtRestart args

/-- MGMT_BAD_REQUEST (R169). -/
def execMgmtBadRequest (dt : Nat) (h : Head) (data : List Byte) (s : State) : Outcome :=
  event s dt fun m => m.mgmtArrival h data fun m => m.manage data

end Sys2Proof.Machine
end

