-- ==== Sys2Proof/Machine/Frames.lean ====
section
/-! DEFINITION. The arrival of frames on the two segments: samples, reports, other load frames (R154), and the panel
frames in the classes of R152. A frame that comes under another row's name acts as the frame it is. -/

namespace Sys2Proof.Machine

namespace Part

/-- The unit a load frame is offered to by its kind (R154). -/
def offerLoad (s : Part) (f : Frame) : Part :=
  if f.kind = kindSample then s.offerSample f.head.source f.data
  else if f.kind = kindReport then s.takeReport f.head.source f.data
  else s

/-- A panel frame is classified by target and kind, by the first row of the table of R152 that it meets. -/
def classifyPanel (s : Part) (f : Frame) : Part :=
  match targetClass f.target with
  | .node n =>
    if n = s.nodeId then (if f.kind = kindMgmt then s.manage f.data else s.give .none)
    else if s.mgmt.active.rosterNodes.contains n then s.forwardPanel f
    else s.give .none
  | .channel c => if f.kind = kindSwitch then s.switchFrame f c else s.forwardPanel f
  | .broadcast => s.forwardPanel f
  | .unassigned => s.give .none

end Part

/-- A SWITCH frame to a channel. -/
def switchTo (head : Head) (c : Channel) (data : List Byte) : Frame :=
  { head := head, kind := kindSwitch, target := channelTarget c, data := data }

/-! ## The commands -/

/-- SAMPLE (R3, R154). -/
def execSample (dt : Nat) (h : Head) (target : BitVec 7) (data : List Byte) (s : State) : Outcome :=
  event s dt fun m => m.loadArrival { head := h, kind := kindSample, target := target, data := data } [] fun m =>
    m.offerSample h.source data

/-- REPORT (R52, R154). -/
def execReport (dt : Nat) (h : Head) (target : BitVec 7) (data : List Byte) (s : State) : Outcome :=
  event s dt fun m => m.loadArrival { head := h, kind := kindReport, target := target, data := data } [] fun m =>
    m.takeReport h.source data

/-- LOAD_FRAME_ARRIVAL (R145, R154). -/
def execLoadFrameArrival (dt : Nat) (a : LoadArrival) (s : State) : Outcome :=
  event s dt fun m => m.loadArrival a.frame a.roll fun m => m.offerLoad a.frame

/-- PANEL_FRAME_ARRIVAL (R152). -/
def execPanelFrameArrival (dt : Nat) (f : Frame) (s : State) : Outcome :=
  event s dt fun m => m.panelArrival f fun m => m.classifyPanel f

/-- PANEL_SWITCH_OFF (R62). -/
def execPanelSwitchOff (dt : Nat) (h : Head) (c : Channel) (s : State) : Outcome :=
  event s dt fun m => m.panelArrival (switchTo h c [actOff]) fun m => m.switchOff (switchTo h c [actOff]) c

/-- PANEL_SWITCH_ON (R62). -/
def execPanelSwitchOn (dt : Nat) (h : Head) (c : Channel) (s : State) : Outcome :=
  event s dt fun m => m.panelArrival (switchTo h c [actOn]) fun m => m.switchTo (switchTo h c [actOn]) c .on

/-- PANEL_SWITCH_LEVEL (R61, R62). -/
def execPanelSwitchLevel (dt : Nat) (h : Head) (c : Channel) (n : Byte) (s : State) : Outcome :=
  event s dt fun m => m.panelArrival (switchTo h c [actLevel, n]) fun m => m.switchFrame (switchTo h c [actLevel, n]) c

/-- BOOST (R61, R63). -/
def execBoost (dt : Nat) (h : Head) (c : Channel) (minutes : Byte) (s : State) : Outcome :=
  event s dt fun m => m.panelArrival (switchTo h c [actBoost, minutes]) fun m => m.boostFrame c minutes

/-- SWITCH_MALFORMED (R61). -/
def execSwitchMalformed (dt : Nat) (h : Head) (c : Channel) (data : List Byte) (s : State) : Outcome :=
  event s dt fun m => m.panelArrival (switchTo h c data) fun m => m.switchFrame (switchTo h c data) c

end Sys2Proof.Machine
end

