-- ==== Sys2Proof/Machine/PortEvents.lean ====
section
/-! DEFINITION. What the two bus lines do to the ports (07 sections 7.3 to 7.6): SILENT, FAULT and ACTIVE, lost
arbitration, and dropped frames. An event that the port's state does not allow changes nothing but the time (log 3). -/

namespace Sys2Proof.Machine

/-! ## Port states (R145..R148) -/

/-- SILENT, with the receive position waiting for a start mark (R146). -/
def PortCore.toSilent (_p : PortCore) : PortCore := { state := .silent, startUp := false, position := .waiting }

/-- FAULT (R147). -/
def PortCore.toFault (_p : PortCore) : PortCore := { state := .fault, startUp := false, position := .waiting }

/-- ACTIVE, taking the next start mark (R146, R147, R148). -/
def PortCore.toActive (_p : PortCore) : PortCore := { state := .active, startUp := false, position := .waiting }

namespace Part

/-- The core of a port. -/
def core (s : Part) : PortId → PortCore
  | .panel => s.panel.port
  | .load => s.load.port

/-- Changes the core of a port. -/
def modCore (s : Part) (p : PortId) (f : PortCore → PortCore) : Part :=
  match p with
  | .panel => { s with panel := { s.panel with port := f s.panel.port } }
  | .load => { s with load := { s.load with port := f s.load.port } }

/-- The port is transmitting a frame of its queues (R137). -/
def onBus (s : Part) : PortId → Bool
  | .panel => s.panel.sending.isSome
  | .load => s.load.sending.isSome

/-- The Panel Port is giving an answer (R142, R144). -/
def answering (s : Part) : Bool := decide (s.panel.port.position = .answerField ∧ s.panel.answer ≠ .none)

/-- An answer that is being given is cut off; what the command did stands (R144, R146). -/
def cutAnswer (s : Part) : Part := if s.answering then { s with panel := { s.panel with answer := .none } } else s

/-- What a symbol violation leaves of the Load Port's attempt: the IDs of a roll received before it stand, and any
other attempt is one with no answer (R142, R143, R146). -/
def brokenAttempt (s : Part) (roll : List Byte) : Part :=
  match s.onEngine, s.onForward with
  | some e, _ =>
    if rollIds roll = [] then s.attemptFails
    else
      match e.purpose with
      | .census => s.finish fun s => s.censusRoundDone (rollIds roll)
      | .openset => s.finish fun s => s.opensetDone (rollIds roll)
      | _ => s.attemptFails
  | none, some e =>
    if rollIds roll ≠ [] ∧ answerKind e.frame.kind = .roll then s.dropForward.rollAll (rollIds roll) else s.attemptFails
  | none, none => s

/-- What the entry of a port to SILENT cuts off (R146, R165). -/
def cutOff (s : Part) (p : PortId) (roll : List Byte) : Part :=
  match p with
  | .panel => s.panelFails.cutAnswer
  | .load => s.brokenAttempt roll

/-- A port enters SILENT from ACTIVE (R146). -/
def enterSilent (s : Part) (p : PortId) (roll : List Byte) : Part :=
  if (s.core p).state = .active then (s.cutOff p roll).modCore p PortCore.toSilent else s

/-- The attempt in progress is void: its frame stays at the head, its attempt number unchanged (R147, R160). The IDs of a
roll that have been read in it are not heard (DESIGN CHOICE, log 48). -/
def voidAttempt (s : Part) (p : PortId) : Part :=
  match p with
  | .panel => { s.cutAnswer with panel := { s.cutAnswer.panel with sending := none } }
  | .load => { s with load := { s.load with sending := none } }

/-- A port enters FAULT from ACTIVE or SILENT, and PORT_FAULT is raised; during the store read both ports stay SILENT
(R147, R148, R186, R187, log 20). -/
def enterFault (s : Part) (p : PortId) : Part :=
  if (s.core p).state = .fault ∨ s.mgmt.reading = true then s
  else ((s.voidAttempt p).modCore p PortCore.toFault).testPortFault

/-- The census of a reset asks for the slot of its first round when the Load Port becomes ACTIVE (R132, R148). -/
def firstRound (s : Part) : Part :=
  if s.roster.census = .pending ∧ s.load.awaitCensus = false then s.askRound else s

/-- A port becomes ACTIVE (R146, R147, R148). -/
def becomeActive (s : Part) (p : PortId) : Part :=
  match p with
  | .panel => s.modCore .panel PortCore.toActive
  | .load => (s.modCore .load PortCore.toActive).firstRound

/-- After a reset a port becomes ACTIVE, once the store read has ended (R148, R186). -/
def startPort (s : Part) (p : PortId) : Part :=
  if (s.core p).state = .silent ∧ (s.core p).startUp = true ∧ s.mgmt.reading = false then s.becomeActive p else s

/-- A SILENT port returns to ACTIVE (R146). -/
def endSilent (s : Part) (p : PortId) : Part :=
  if (s.core p).state = .silent ∧ (s.core p).startUp = false then s.modCore p PortCore.toActive else s

/-- A port leaves FAULT for ACTIVE, and PORT_FAULT is cleared when neither port is in FAULT (R147, log 20). -/
def endFault (s : Part) (p : PortId) : Part :=
  if (s.core p).state = .fault ∧ s.mgmt.reading = false then (s.becomeActive p).testPortFault else s

/-- A bit error in the port's own frame or answer (R137). -/
def bitError (s : Part) (p : PortId) : Part :=
  if s.onBus p || (decide (p = .panel) && s.answering) then s.enterSilent p [] else s

/-- The 66th byte after the header of a received frame (R134). -/
def overrun (s : Part) (p : PortId) : Part := if s.onBus p then s else s.enterSilent p []

/-- The chosen frame loses arbitration to a header that is lower (R137). -/
def loses (f : Option Frame) (winner : BitVec 24) : Bool :=
  match f with
  | none => false
  | some f => decide (winner < f.headerWord)

/-- A lost arbitration begins no attempt: the port receives the winning frame, and sends nothing until that frame has
arrived or been dropped. At the Load Port the withdrawal test
of the chosen frame has been made (R137, R159, R163, log 18). -/
def loseArbitration (s : Part) (p : PortId) (winner : BitVec 24) : Part :=
  match p with
  | .load =>
    let s1 := testHeads s.testFuel s
    if s.loadFreeToSend && loses s1.loadChosen winner
    then s1.modCore .load fun c => { c with position := .headerData } else s
  | .panel =>
    if s.panelFreeToSend && loses s.panelChosen winner
    then s.modCore .panel fun c => { c with position := .headerData } else s

/-- A frame is dropped at its data-end pause: no answer, no hearing, no forwarding; the port stays ACTIVE
(R134, R135). -/
def dropFrame (s : Part) (p : PortId) (bytes : List Byte) : Part :=
  if (s.core p).state = .active ∧ Frame.ofBytes bytes = none then
    match p with
    | .panel => s.give .none
    | .load => s.loadFrameEnd
  else s

end Part

/-! ## The commands -/

/-- PORT_ACTIVE_AFTER_RESET (R148). -/
def execPortActiveAfterReset (dt : Nat) (p : PortId) (s : State) : Outcome := event s dt fun m => m.startPort p

/-- SYMBOL_VIOLATION (R133, R143, R146). -/
def execSymbolViolation (dt : Nat) (p : PortId) (roll : List Byte) (s : State) : Outcome :=
  event s dt fun m => m.enterSilent p roll

/-- DATA_OVERRUN (R134). -/
def execDataOverrun (dt : Nat) (p : PortId) (s : State) : Outcome := event s dt fun m => m.overrun p

/-- BIT_ERROR (R137). -/
def execBitError (dt : Nat) (p : PortId) (s : State) : Outcome := event s dt fun m => m.bitError p

/-- ARBITRATION_LOST (R137). -/
def execArbitrationLost (dt : Nat) (p : PortId) (winner : BitVec 24) (s : State) : Outcome :=
  event s dt fun m => m.loseArbitration p winner

/-- SILENT_END (R146). -/
def execSilentEnd (dt : Nat) (p : PortId) (s : State) : Outcome := event s dt fun m => m.endSilent p

/-- PORT_FAULT_ENTRY (R147). -/
def execPortFaultEntry (dt : Nat) (p : PortId) (s : State) : Outcome := event s dt fun m => m.enterFault p

/-- PORT_FAULT_END (R147). -/
def execPortFaultEnd (dt : Nat) (p : PortId) (s : State) : Outcome := event s dt fun m => m.endFault p

/-- CHECK_BYTE_MISMATCH (R134, R135). -/
def execCheckByteMismatch (dt : Nat) (p : PortId) (bytes : List Byte) (s : State) : Outcome :=
  event s dt fun m => m.dropFrame p bytes

end Sys2Proof.Machine
end

