-- ==== Sys2Proof/Machine/Resets.lean ====
section
/-! DEFINITION. The hardware reset (R184, R185), the management reset (R180, R187), and the end of the setting store
read that both begin (R181, R186). -/

namespace Sys2Proof.Machine

namespace Part

/-- The hardware reset, at release: straps sampled, every unit at its reset values, the setting store kept
(R24, R47, R77, R97, R115, R132, R148, R166, R183 to R185, log 34). -/
def hardwareReset (s : Part) (node : BitVec 4) (fall : BitVec 3) : Part := Part.atRelease node fall s.mgmt.store

/-- The copy in the store passes both tests: its check word, and no non-empty ROSTER entry with the part's node ID
(R181). -/
def storeGood (node : NodeId) (c : StoreCopy) : Bool :=
  crc16 c.image == c.check && !(Tables.ofBytes c.image).rosterNodes.contains node

/-- The tables a store read makes active, when the store holds a good copy (R181). -/
def storeTables (s : Part) : Option Tables :=
  s.mgmt.store.bind fun c => if storeGood s.nodeId c then some (Tables.ofBytes c.image) else none

/-- The store read ends: the copy or the built-in defaults become active and shadow, DEFAULTS_IN_USE follows, the
change of tables reaches the Reserve Unit, and the presence records are formed (R25, R132, R181, R186, R187). -/
def storeRead (s : Part) : Part :=
  if s.mgmt.reading then
    let t := s.storeTables.getD Tables.default
    let s1 : Part := { s with
      mgmt := { s.mgmt with active := t, shadow := t, reading := false }
      alerts := { s.alerts with defaults := s.storeTables.isNone }
      reserve := s.reserve.retable s.mgmt.active.settings t.settings
      roster := { s.roster with presence := t.rosterNodes.map PresenceRec.expected } }
    s1.testModuleAbsent
  else s

/-- The Assessment Unit at the management reset: three counts start over and the unsettled mark is set (R48). -/
def assessRestarted (a : AssessUnit) : AssessUnit :=
  { a with vGuardCount := 0, releaseCount := 0, holdCount := 0, unsettled := true }

/-- The management reset, once the frame that carried RESTART has ended: the Reserve Unit keeps its state, the
Assessment Unit most of its own, every other unit is reset, and the store read begins. The tables stay as they are
until it ends (R25, R48, R77, R97, R115, R132, R148, R166, R180, R183, R187, logs 29 and 30). -/
def managementReset (s : Part) : Part :=
  if s.mgmt.restartArmed then
    { s with
      assess := assessRestarted s.assess
      chans := Vector.replicate 48 ChanRec.atReset
      overrides := Vector.replicate 4 none
      ctxs := Vector.replicate 48 none
      ctxSerial := 0
      seq := Sequencer.atReset
      roster := RosterUnit.atReset s.mgmt.active
      load := LoadPort.atReset
      panel := PanelPort.atReset
      mgmt := { s.mgmt with commit := .idle, reading := true, restartArmed := false }
      alerts := { s.alerts with moduleAbsent := false, portFault := false } }
  else s

end Part

/-! ## The commands -/

/-- HARDWARE_RESET (R184, R185). -/
def execHardwareReset (dt : Nat) (node : BitVec 4) (fall : BitVec 3) (s : State) : Outcome :=
  event s dt fun m => m.hardwareReset node fall

/-- STORE_READ_END (R186). -/
def execStoreReadEnd (dt : Nat) (s : State) : Outcome := event s dt fun m => m.storeRead

/-- MANAGEMENT_RESET (R180). -/
def execManagementReset (dt : Nat) (s : State) : Outcome := event s dt fun m => m.managementReset

end Sys2Proof.Machine
end

