-- ==== Sys2Proof/Machine/Sending.lean ====
section
/-! DEFINITION. Sending and the ends of attempts as commands (R159 to R163), and the end of the store write (R175). An
outcome that is not that of the frame on the bus changes nothing but the time (log 3). -/

namespace Sys2Proof.Machine

/-! ## The purposes whose outcome each row names -/

def Purpose.ofTerminal : Purpose → Bool
  | .terminal _ => true
  | _ => false

def Purpose.ofStopreq : Purpose → Bool
  | .stopreq _ => true
  | _ => false

namespace Part

/-- The frame on the bus at the Load Port has its answer collected, and this attempt is its first or second (R160). -/
def mayRetry (s : Part) : Bool :=
  match s.onEngine, s.onForward with
  | some e, _ => !lastAttempt e.attempts
  | none, some e => collects e.frame && !lastAttempt e.attempts
  | none, none => false

/-- A first or second attempt ends with no answer (R160). -/
def noAnswer (s : Part) : Part := if s.mayRetry then s.startPause else s

/-- The store write ends: IDLE, a COMMIT notice, and on a good check the copy stands and DEFAULTS_IN_USE is cleared;
otherwise the store holds no good copy (R175, R181, log 6). -/
def storeWritten (s : Part) (good : Bool) : Part :=
  if s.mgmt.commit = .writing then
    let image := s.mgmt.active.encode
    let s1 : Part := { s with
      mgmt := { s.mgmt with
        commit := .idle, store := if good then some { image := image, check := crc16 image } else none }
      alerts := { s.alerts with defaults := s.alerts.defaults && !good } }
    s1.notify (.commit (if good then 0 else 1))
  else s

end Part

/-! ## The commands -/

/-- LOAD_PORT_SEND (R159). -/
def execLoadPortSend (dt : Nat) (s : State) : Outcome := event s dt fun m => m.loadSend

/-- PANEL_PORT_SEND (R163). -/
def execPanelPortSend (dt : Nat) (s : State) : Outcome := event s dt fun m => m.panelSend

/-- ATTEMPT_NO_ANSWER (R160). -/
def execAttemptNoAnswer (dt : Nat) (s : State) : Outcome := event s dt fun m => m.noAnswer

/-- FRAME_SENT (R161, R163). -/
def execFrameSent (dt : Nat) (p : PortId) (s : State) : Outcome :=
  event s dt fun m =>
    match p with
    | .panel => m.panelDrop
    | .load => m.loadSent

/-- TERMINAL_OUTCOME (R88). -/
def execTerminalOutcome (dt : Nat) (ans : List Byte) (s : State) : Outcome :=
  event s dt fun m => m.verdictEnd Purpose.ofTerminal ans

/-- STOPREQ_OUTCOME (R82). -/
def execStopreqOutcome (dt : Nat) (ans : List Byte) (s : State) : Outcome :=
  event s dt fun m => m.verdictEnd Purpose.ofStopreq ans

/-- RESTORE_OUTCOME (R107). -/
def execRestoreOutcome (dt : Nat) (ans : List Byte) (s : State) : Outcome :=
  event s dt fun m => m.verdictEnd (fun p => p == .restore) ans

/-- RESUME_OUTCOME (R59). -/
def execResumeOutcome (dt : Nat) (ans : List Byte) (s : State) : Outcome :=
  event s dt fun m => m.verdictEnd (fun p => p == .resume) ans

/-- BOOST_SWITCH_ON_OUTCOME (R65). -/
def execBoostSwitchOnOutcome (dt : Nat) (ans : List Byte) (s : State) : Outcome :=
  event s dt fun m => m.verdictEnd (fun p => p == .boostOn) ans

/-- RESEND_OUTCOME (R67). -/
def execResendOutcome (dt : Nat) (ans : List Byte) (s : State) : Outcome :=
  event s dt fun m => m.verdictEnd (fun p => p == .resend) ans

/-- CENSUS_ROUND_END (R124). -/
def execCensusRoundEnd (dt : Nat) (ans : List Byte) (s : State) : Outcome :=
  event s dt fun m => m.rollEnd (fun p => p == .census) Part.censusRoundDone ans

/-- OPENSET_END (R129). -/
def execOpensetEnd (dt : Nat) (ans : List Byte) (s : State) : Outcome :=
  event s dt fun m => m.rollEnd (fun p => p == .openset) Part.opensetDone ans

/-- FORWARDED_OUTCOME (R162). -/
def execForwardedOutcome (dt : Nat) (ans : List Byte) (s : State) : Outcome := event s dt fun m => m.forwardEnd ans

/-- STORE_WRITE_END (R175). -/
def execStoreWriteEnd (dt : Nat) (good : Bool) (s : State) : Outcome := event s dt fun m => m.storeWritten good

end Sys2Proof.Machine
end

