-- ==== Sys2Proof/Machine/Timers.lean ====
section
/-! DEFINITION. The expiry of timers and the reaching of deadlines (00_scope, Time). One that is not running, or not
yet due, changes nothing but the time (log 3). -/

namespace Sys2Proof.Machine

namespace Part

/-- The stale timer expires in FRESH: STALE, seed mark set, MONITOR notice (R5, R8). -/
def staleExpiry (s : Part) : Part :=
  if s.reserve.monitor = .fresh ∧ s.reached s.reserve.staleAt then
    let s1 : Part := { s with reserve := { s.reserve with monitor := .stale, seed := true, staleAt := none } }
    s1.monitorNotice .fresh
  else s

/-- The lost timer expires in AWAITING or STALE: LOST, seed mark set, MONITOR_LOST raised, MONITOR notice (R6, R8). -/
def lostExpiry (s : Part) : Part :=
  if (s.reserve.monitor = .awaiting ∨ s.reserve.monitor = .stale) ∧ s.reached s.reserve.lostAt then
    let s1 : Part := { s with reserve := { s.reserve with monitor := .lost, seed := true, lostAt := none } }
    s1.monitorNotice s.reserve.monitor
  else s

/-- The assessment timer expires (R26, R27). -/
def assessmentExpiry (s : Part) : Part := if s.assess.timerAt ≤ s.now then s.assessNow else s

/-- The switch-on deadline of an override entry is reached: the mark is cleared and the SWITCH queued (R65). -/
def boostDeadline (s : Part) (i : Fin 4) : Part :=
  match s.overrides[i] with
  | none => s
  | some o => if s.reached o.deadline then (s.setOverride i (some { o with deadline := none })).boostSwitchOn o.ch else s

/-- The expiry of an override entry is reached (R66). -/
def overrideExpiry (s : Part) (i : Fin 4) : Part :=
  match s.overrides[i] with
  | none => s
  | some o => if o.expiry ≤ s.now then s.expireOverride i o else s

/-- The ready time of some SHED entry of the list, formed from a present off-since time, has been reached (R103). -/
def someReady (s : Part) : Bool :=
  s.seq.list.any fun c => decide (s.chans[c].state = .shed) && s.reached (s.readyTime c)

/-- A ready time is reached, and a pick is due (R103, R104, log 23). -/
def readyReached (s : Part) : Part := if s.someReady then s.pickDue else s

/-- The spacing timer expires: IDLE, and a pick is made at once (R107). -/
def spacingExpiry (s : Part) : Part :=
  if s.seq.state = .spacing ∧ s.reached s.seq.spacingAt then
    let s1 : Part := { s with seq := { s.seq with state := .idle, spacingAt := none } }
    s1.pick
  else s

/-- A pause end that has been reached is over. -/
def overPause (now : Nat) (p : Option Nat) : Option Nat := if inPause now p then p else none

/-- The retry pause of a queue's head frame ends (R160, R163). -/
def pauseOver (s : Part) (q : QueueId) : Part :=
  match q with
  | .engine =>
    match s.load.engine with
    | [] => s
    | e :: rest => { s with load := { s.load with engine := { e with pauseEnd := overPause s.now e.pauseEnd } :: rest } }
  | .loadForward =>
    match s.load.forward with
    | [] => s
    | e :: rest => { s with load := { s.load with forward := { e with pauseEnd := overPause s.now e.pauseEnd } :: rest } }
  | .notice =>
    match s.panel.notices with
    | [] => s
    | e :: rest =>
      { s with panel := { s.panel with notices := { e with pauseEnd := overPause s.now e.pauseEnd } :: rest } }
  | .panelForward =>
    match s.panel.forward with
    | [] => s
    | e :: rest =>
      { s with panel := { s.panel with forward := { e with pauseEnd := overPause s.now e.pauseEnd } :: rest } }

end Part

/-! ## The commands -/

/-- STALE_TIMER_EXPIRY (R5). -/
def execStaleTimerExpiry (dt : Nat) (s : State) : Outcome := event s dt fun m => m.staleExpiry

/-- LOST_TIMER_EXPIRY (R6). -/
def execLostTimerExpiry (dt : Nat) (s : State) : Outcome := event s dt fun m => m.lostExpiry

/-- ASSESSMENT (R27). -/
def execAssessment (dt : Nat) (s : State) : Outcome := event s dt fun m => m.assessmentExpiry

/-- BOOST_SWITCH_ON_DEADLINE (R65). -/
def execBoostSwitchOnDeadline (dt : Nat) (i : Fin 4) (s : State) : Outcome := event s dt fun m => m.boostDeadline i

/-- OVERRIDE_EXPIRY (R66). -/
def execOverrideExpiry (dt : Nat) (i : Fin 4) (s : State) : Outcome := event s dt fun m => m.overrideExpiry i

/-- STOP_ASK_TIMEOUT (R82). -/
def execStopAskTimeout (dt : Nat) (c : Channel) (s : State) : Outcome := event s dt fun m => m.stepDeadline c .stopAsk

/-- WAIT_IDLE_TIMEOUT (R84). -/
def execWaitIdleTimeout (dt : Nat) (c : Channel) (s : State) : Outcome := event s dt fun m => m.stepDeadline c .waitIdle

/-- HOLD_END (R85). -/
def execHoldEnd (dt : Nat) (c : Channel) (s : State) : Outcome := event s dt fun m => m.stepDeadline c .hold

/-- READY_TIME_REACHED (R103). -/
def execReadyTimeReached (dt : Nat) (s : State) : Outcome := event s dt fun m => m.readyReached

/-- SPACING_TIMER_EXPIRY (R107). -/
def execSpacingTimerExpiry (dt : Nat) (s : State) : Outcome := event s dt fun m => m.spacingExpiry

/-- SILENCE_TIMER_EXPIRY (R120). -/
def execSilenceTimerExpiry (dt : Nat) (n : NodeId) (s : State) : Outcome := event s dt fun m => m.silenceExpiry n

/-- RETRY_PAUSE_END (R160). -/
def execRetryPauseEnd (dt : Nat) (q : QueueId) (s : State) : Outcome := event s dt fun m => m.pauseOver q

end Sys2Proof.Machine
end

