-- ==== Sys2Proof/Machine/Dispatch.lean ====
section
/-! DEFINITION. The meaning of every command: one arm per constructor of `Instr`, each one direct call. -/

namespace Sys2Proof.Machine

def exec (i : Instr) (s : State) : Host.Outcome State Fault Refusal :=
  match i with
  | .hardwareReset dt node fall => Sys2Proof.Machine.execHardwareReset dt node fall s
  | .storeReadEnd dt => Sys2Proof.Machine.execStoreReadEnd dt s
  | .managementReset dt => Sys2Proof.Machine.execManagementReset dt s
  | .portActiveAfterReset dt port => Sys2Proof.Machine.execPortActiveAfterReset dt port s
  | .symbolViolation dt port roll => Sys2Proof.Machine.execSymbolViolation dt port roll s
  | .dataOverrun dt port => Sys2Proof.Machine.execDataOverrun dt port s
  | .bitError dt port => Sys2Proof.Machine.execBitError dt port s
  | .arbitrationLost dt port winner => Sys2Proof.Machine.execArbitrationLost dt port winner s
  | .silentEnd dt port => Sys2Proof.Machine.execSilentEnd dt port s
  | .portFaultEntry dt port => Sys2Proof.Machine.execPortFaultEntry dt port s
  | .portFaultEnd dt port => Sys2Proof.Machine.execPortFaultEnd dt port s
  | .checkByteMismatch dt port bytes => Sys2Proof.Machine.execCheckByteMismatch dt port bytes s
  | .sample dt head target data => Sys2Proof.Machine.execSample dt head target data s
  | .staleTimerExpiry dt => Sys2Proof.Machine.execStaleTimerExpiry dt s
  | .lostTimerExpiry dt => Sys2Proof.Machine.execLostTimerExpiry dt s
  | .assessment dt => Sys2Proof.Machine.execAssessment dt s
  | .report dt head target data => Sys2Proof.Machine.execReport dt head target data s
  | .loadFrameArrival dt arrival => Sys2Proof.Machine.execLoadFrameArrival dt arrival s
  | .panelFrameArrival dt frame => Sys2Proof.Machine.execPanelFrameArrival dt frame s
  | .panelSwitchOff dt head ch => Sys2Proof.Machine.execPanelSwitchOff dt head ch s
  | .panelSwitchOn dt head ch => Sys2Proof.Machine.execPanelSwitchOn dt head ch s
  | .panelSwitchLevel dt head ch level => Sys2Proof.Machine.execPanelSwitchLevel dt head ch level s
  | .boost dt head ch minutes => Sys2Proof.Machine.execBoost dt head ch minutes s
  | .switchMalformed dt head ch data => Sys2Proof.Machine.execSwitchMalformed dt head ch data s
  | .boostSwitchOnDeadline dt entry => Sys2Proof.Machine.execBoostSwitchOnDeadline dt entry s
  | .overrideExpiry dt entry => Sys2Proof.Machine.execOverrideExpiry dt entry s
  | .stopAskTimeout dt ch => Sys2Proof.Machine.execStopAskTimeout dt ch s
  | .waitIdleTimeout dt ch => Sys2Proof.Machine.execWaitIdleTimeout dt ch s
  | .holdEnd dt ch => Sys2Proof.Machine.execHoldEnd dt ch s
  | .readyTimeReached dt => Sys2Proof.Machine.execReadyTimeReached dt s
  | .spacingTimerExpiry dt => Sys2Proof.Machine.execSpacingTimerExpiry dt s
  | .silenceTimerExpiry dt node => Sys2Proof.Machine.execSilenceTimerExpiry dt node s
  | .retryPauseEnd dt queue => Sys2Proof.Machine.execRetryPauseEnd dt queue s
  | .loadPortSend dt => Sys2Proof.Machine.execLoadPortSend dt s
  | .panelPortSend dt => Sys2Proof.Machine.execPanelPortSend dt s
  | .attemptNoAnswer dt => Sys2Proof.Machine.execAttemptNoAnswer dt s
  | .frameSent dt port => Sys2Proof.Machine.execFrameSent dt port s
  | .terminalOutcome dt ans => Sys2Proof.Machine.execTerminalOutcome dt ans s
  | .stopreqOutcome dt ans => Sys2Proof.Machine.execStopreqOutcome dt ans s
  | .restoreOutcome dt ans => Sys2Proof.Machine.execRestoreOutcome dt ans s
  | .resumeOutcome dt ans => Sys2Proof.Machine.execResumeOutcome dt ans s
  | .boostSwitchOnOutcome dt ans => Sys2Proof.Machine.execBoostSwitchOnOutcome dt ans s
  | .resendOutcome dt ans => Sys2Proof.Machine.execResendOutcome dt ans s
  | .censusRoundEnd dt ans => Sys2Proof.Machine.execCensusRoundEnd dt ans s
  | .opensetEnd dt ans => Sys2Proof.Machine.execOpensetEnd dt ans s
  | .forwardedOutcome dt ans => Sys2Proof.Machine.execForwardedOutcome dt ans s
  | .storeWriteEnd dt good => Sys2Proof.Machine.execStoreWriteEnd dt good s
  | .load dt head args => Sys2Proof.Machine.execLoad dt head args s
  | .commit dt head args => Sys2Proof.Machine.execCommit dt head args s
  | .discard dt head args => Sys2Proof.Machine.execDiscard dt head args s
  | .read dt head args => Sys2Proof.Machine.execRead dt head args s
  | .status dt head args => Sys2Proof.Machine.execStatus dt head args s
  | .channel dt head args => Sys2Proof.Machine.execChannel dt head args s
  | .limits dt head args => Sys2Proof.Machine.execLimits dt head args s
  | .setReserve dt head args => Sys2Proof.Machine.execSetReserve dt head args s
  | .census dt head args => Sys2Proof.Machine.execCensus dt head args s
  | .release dt head args => Sys2Proof.Machine.execRelease dt head args s
  | .retain dt head args => Sys2Proof.Machine.execRetain dt head args s
  | .restart dt head args => Sys2Proof.Machine.execRestart dt head args s
  | .mgmtBadRequest dt head data => Sys2Proof.Machine.execMgmtBadRequest dt head data s

end Sys2Proof.Machine
end

