-- ==== Sys2Proof/Machine/Tick.lean ====
section
/-! DEFINITION. What the block does on an empty queue: one millisecond passes on its time base, and the expiries that
have fallen due become the waiting commands, in one fixed order (log 2). -/

namespace Sys2Proof.Machine

/-- A command, when it is due. -/
def dueWhen (b : Bool) (i : Instr) : List Instr := if b then [i] else []

namespace Part

/-- The deadline commands of one channel's context: the row of the step that stands (R82, R84, R85). -/
def dueStep (s : Part) (c : Channel) : List Instr :=
  match s.ctxs[c] with
  | none => []
  | some x =>
    if s.reached x.deadline then
      match (slotAt x.prog x.index).kind with
      | .stopAsk => [.stopAskTimeout 0 c]
      | .waitIdle => [.waitIdleTimeout 0 c]
      | .hold => [.holdEnd 0 c]
      | _ => []
    else []

/-- The commands of one override entry (R65, R66). -/
def dueOverride (s : Part) (i : Fin 4) : List Instr :=
  match s.overrides[i] with
  | none => []
  | some o =>
    dueWhen (s.reached o.deadline) (.boostSwitchOnDeadline 0 i) ++ dueWhen (decide (o.expiry ≤ s.now)) (.overrideExpiry 0 i)

/-- A ready time of a SHED entry is reached at this very millisecond (R103). -/
def readyNow (s : Part) : Bool :=
  s.seq.list.any fun c => decide (s.chans[c].state = .shed ∧ s.readyTime c = some s.now)

/-- The retry pauses of the queue heads (R160, R163). -/
def duePauses (s : Part) : List Instr :=
  dueWhen (s.reached (s.load.engine.head?.bind EngEntry.pauseEnd)) (.retryPauseEnd 0 .engine)
  ++ dueWhen (s.reached (s.load.forward.head?.bind FwdEntry.pauseEnd)) (.retryPauseEnd 0 .loadForward)
  ++ dueWhen (s.reached (s.panel.notices.head?.bind NoticeEntry.pauseEnd)) (.retryPauseEnd 0 .notice)
  ++ dueWhen (s.reached (s.panel.forward.head?.bind FwdEntry.pauseEnd)) (.retryPauseEnd 0 .panelForward)

/-- The expiries that are due: the Reserve Unit's, the override entries', the contexts', the Sequencer's, the Roster
Unit's, the retry pauses', and last the assessment. -/
def due (s : Part) : List Instr :=
  dueWhen (s.reached s.reserve.staleAt) (.staleTimerExpiry 0)
  ++ dueWhen (s.reached s.reserve.lostAt) (.lostTimerExpiry 0)
  ++ (List.finRange 4).flatMap s.dueOverride
  ++ allChannels.flatMap s.dueStep
  ++ dueWhen (s.reached s.seq.spacingAt) (.spacingTimerExpiry 0)
  ++ dueWhen s.readyNow (.readyTimeReached 0)
  ++ s.roster.presence.flatMap (fun r => dueWhen (s.reached r.silenceAt) (.silenceTimerExpiry 0 r.node))
  ++ s.duePauses
  ++ dueWhen (decide (s.assess.timerAt ≤ s.now)) (.assessment 0)

end Part

/-- One millisecond passes with no command waiting (log 2). -/
def tick (s : State) : State :=
  let m := s.toPart.advance 1
  { toPart := m, pending := m.due }

end Sys2Proof.Machine
end

