-- ==== Sys2Proof/Safety.lean ====
section
/-! DEFINITION. What a sound state of the part is: the ranges, capacities and agreements that the rules give, each of
which every step keeps. -/

namespace Sys2Proof.Machine

/-! ## Capacities -/

/-- No queue holds more than its capacity, fewer than three attempts of a waiting frame have ended, and the engine count stays within
0..4 (table of 08, R155 to R164). -/
structure QueuesBounded (s : Part) : Prop where
  engine      : s.load.engine.length ≤ Config.queueCap
  loadForward : s.load.forward.length ≤ Config.queueCap
  notices     : s.panel.notices.length ≤ Config.noticeCap
  panelForward : s.panel.forward.length ≤ Config.queueCap
  engineCount : s.load.engineCount ≤ Config.engineRun
  attempts    : (∀ e ∈ s.load.engine, e.attempts < Config.maxAttempts) ∧
    (∀ e ∈ s.load.forward, e.attempts < Config.maxAttempts) ∧
    (∀ e ∈ s.panel.notices, e.attempts < Config.maxAttempts) ∧
    (∀ e ∈ s.panel.forward, e.attempts < Config.maxAttempts)

/-- The Roster Unit's frames in the engine queue: no outcome is being handed over between two commands; a census round
stands only while a census is RUNNING, an OPENSET only while the opening is SENT, and at most one of each; one that
awaits its slot does not also stand in the queue, and is a census under way or a PENDING opening (R123, R124, R127,
R157). -/
structure SlotsSound (s : Part) : Prop where
  leaving      : ∀ e ∈ s.load.engine, e.leaving = false
  channelOnly  : ∀ r ∈ s.load.awaiting, r.purpose ≠ .census ∧ r.purpose ≠ .openset
  censusOnce   : (s.load.engine.filter fun e => e.purpose == .census).length ≤ 1
  censusStands : (∃ e ∈ s.load.engine, e.purpose = .census) → s.roster.census = .running
  censusAwaits : s.load.awaitCensus = true →
    s.roster.census ≠ .idle ∧ ∀ e ∈ s.load.engine, e.purpose ≠ .census
  openingOnce  : (s.load.engine.filter fun e => e.purpose == .openset).length ≤ 1
  openingStands : (∃ e ∈ s.load.engine, e.purpose = .openset) → s.roster.opening = .sent
  openingAwaits : s.load.awaitOpenset = true →
    s.roster.opening = .pending ∧ ∀ e ∈ s.load.engine, e.purpose ≠ .openset

/-! ## The Reserve Unit -/

/-- The ranges of 01 section 1.1, and what the rules tie to validity (R11 to R13, R16, R18, R20). -/
structure ReserveSound (s : Part) : Prop where
  bound    : s.reserve.reserve ≤ s.settings.cMas
  residue  : -99 ≤ s.reserve.residue ∧ s.reserve.residue ≤ 99
  unvalid  : s.reserve.valid = false →
    s.reserve.reserve = 0 ∧ s.reserve.residue = 0 ∧ s.reserve.runtime = none
  voltage  : s.reserve.vf ≤ 65535
  current  : -32768 ≤ s.reserve.cur ∧ s.reserve.cur ≤ 32767
  runtime  : ∀ m, s.reserve.runtime = some m → m ≤ 65535
  critical : s.reserve.critCount ≤ Config.critCountCap

/-! ## Alert conditions -/

/-- Each alert condition that follows a state agrees with it (R188): CRITICAL, MONITOR_LOST, MODULE_ABSENT,
PORT_FAULT. -/
structure AlertsAgree (s : Part) : Prop where
  critical    : s.alerts.critical = s.assess.critical
  monitorLost : s.alerts.monitorLost = decide (s.reserve.monitor = .lost)
  moduleAbsent : s.alerts.moduleAbsent = s.roster.presence.any fun r => r.state == .absent
  portFault   : s.alerts.portFault = decide (s.panel.port.state = .fault ∨ s.load.port.state = .fault)

/-! ## Channel states, shed list, contexts, overrides -/

/-- The shed list holds exactly the SHEDDING and SHED channels, none twice (R98); a context stands exactly for a
SHEDDING channel (R80); an override entry stands exactly for an OVERRIDDEN channel, none twice (R64). -/
structure ChannelsAgree (s : Part) : Prop where
  nodup     : s.seq.list.Nodup
  listed    : ∀ c : Channel, c ∈ s.seq.list ↔ s.chans[c].state = .shedding ∨ s.chans[c].state = .shed
  context   : ∀ c : Channel, s.ctxs[c].isSome = true ↔ s.chans[c].state = .shedding
  override  : ∀ c : Channel, (∃ i : Fin 4, s.overrides[i].map Override.ch = some c) ↔ s.chans[c].state = .overridden
  entryOnce : ∀ i j : Fin 4, ∀ c : Channel,
    s.overrides[i].map Override.ch = some c → s.overrides[j].map Override.ch = some c → i = j

/-- Every intent LEVEL n has n in 1..99: 100 is ON and 0 is OFF (R50). -/
structure IntentsSound (s : Part) : Prop where
  level : ∀ c : Channel, ∀ n : Nat, s.chans[c].intent = some (.level n) → 1 ≤ n ∧ n ≤ 99

/-- The restoring channel is present in IN_FLIGHT only, and the spacing timer runs in SPACING only (05 section 5.2). -/
structure SequencerSound (s : Part) : Prop where
  restoring : s.seq.restoring.isSome = true ↔ s.seq.state = .inFlight
  spacing   : s.seq.spacingAt.isSome = true ↔ s.seq.state = .spacing

/-! ## Tables and the applied depth -/

/-- Every table copy holds values within the ranges of R171, also the copy in the store; the applied depth and both
demands lie in 0..7 (R37, 02 section 2.1), and the counts of assessments within their ranges. -/
structure RangesSound (s : Part) : Prop where
  active    : s.mgmt.active.inRange = true
  shadow    : s.mgmt.shadow.inRange = true
  store     : ∀ c, s.mgmt.store = some c → (Tables.ofBytes c.image).inRange = true
  depth     : s.assess.depth ≤ 7
  demands   : s.assess.escalation ≤ 7 ∧ s.assess.restore ≤ 7
  fallback  : s.assess.fallback ≤ 7
  number    : s.assess.number < 65536
  guardCount : s.assess.vGuardCount ≤ Config.assessCountCap
  releaseCount : s.assess.releaseCount ≤ Config.assessCountCap
  hold      : s.assess.holdCount ≤ 600
  full      : s.reserve.fullHold ≤ 600

/-! ## Critical -/

/-- While critical is set the applied depth is 7 and the restore-hold count 0, and no override stands (R42, R44). -/
structure CriticalSound (s : Part) : Prop where
  depth     : s.assess.critical = true → s.assess.depth = 7
  hold      : s.assess.critical = true → s.assess.holdCount = 0
  overrides : s.assess.critical = true → ∀ i : Fin 4, s.overrides[i] = none

end Sys2Proof.Machine
end

