-- ==== Sys2Proof/WellFormed.lean ====
section
/-! DEFINITION. Which commands can occur: the operands a row's rules allow. The meaning is total and does not need
these checks; a sender keeps to them. A condition on the part's state (is the frame on the bus of this row's purpose,
has the deadline been reached) is not a matter of the command alone and stands in the meaning (log 3). -/

namespace Sys2Proof

/-- The data is within the limit that the long mark sets (R134). -/
def dataFits (h : Head) (data : List Byte) : Bool := data.length ≤ dataLimit h.long

/-- A ROLL answer has at most 12 bytes (R143). -/
def rollFits (ans : List Byte) : Bool := ans.length ≤ Config.rollCap

/-- Bytes that a port drops at the data-end pause: no frame, and at most 65 after the header, since the 66th ends the
frame otherwise (R134, R135). -/
def mismatched (bytes : List Byte) : Bool := (Frame.ofBytes bytes).isNone && decide (bytes.length ≤ 68)

/-- A SWITCH to a channel, which has rows of its own (R152). -/
def switchToChannel (f : Frame) : Bool :=
  f.kind == kindSwitch &&
    (match targetClass f.target with
      | .channel _ => true
      | _ => false)

/-- A management frame that fails test 1: no data, or no command code (R169). -/
def noCommand : List Byte → Bool
  | [] => true
  | code :: _ => code == 0 || decide (0x0C < code.toNat)

/-- The command is well formed. -/
def Instr.wf : Instr → Bool
  | .hardwareReset _ _ _ => true
  | .storeReadEnd _ => true
  | .managementReset _ => true
  | .portActiveAfterReset _ _ => true
  | .symbolViolation _ _ roll => rollFits roll
  | .dataOverrun _ _ => true
  | .bitError _ _ => true
  | .arbitrationLost _ _ _ => true
  | .silentEnd _ _ => true
  | .portFaultEntry _ _ => true
  | .portFaultEnd _ _ => true
  | .checkByteMismatch _ _ bytes => mismatched bytes
  | .sample _ h _ data => dataFits h data
  | .staleTimerExpiry _ => true
  | .lostTimerExpiry _ => true
  | .assessment _ => true
  | .report _ h _ data => dataFits h data
  | .loadFrameArrival _ a =>
    a.frame.fits && a.frame.kind != kindSample && a.frame.kind != kindReport && rollFits a.roll
      && (answerKind a.frame.kind == .roll || a.roll.isEmpty)
  | .panelFrameArrival _ f => f.fits && !switchToChannel f
  | .panelSwitchOff _ _ _ => true
  | .panelSwitchOn _ _ _ => true
  | .panelSwitchLevel _ _ _ n => decide (1 ≤ n.toNat ∧ n.toNat ≤ 100)
  | .boost _ _ _ minutes => minutes != 0
  | .switchMalformed _ h _ data => dataFits h data && Machine.switchMalformed data
  | .boostSwitchOnDeadline _ _ => true
  | .overrideExpiry _ _ => true
  | .stopAskTimeout _ _ => true
  | .waitIdleTimeout _ _ => true
  | .holdEnd _ _ => true
  | .readyTimeReached _ => true
  | .spacingTimerExpiry _ => true
  | .silenceTimerExpiry _ _ => true
  | .retryPauseEnd _ _ => true
  | .loadPortSend _ => true
  | .panelPortSend _ => true
  | .attemptNoAnswer _ => true
  | .frameSent _ _ => true
  | .terminalOutcome _ _ => true
  | .stopreqOutcome _ _ => true
  | .restoreOutcome _ _ => true
  | .resumeOutcome _ _ => true
  | .boostSwitchOnOutcome _ _ => true
  | .resendOutcome _ _ => true
  | .censusRoundEnd _ ans => rollFits ans
  | .opensetEnd _ ans => rollFits ans
  | .forwardedOutcome _ _ => true
  | .storeWriteEnd _ _ => true
  | .load _ h args => dataFits h (0x01 :: args)
  | .commit _ h args => dataFits h (0x02 :: args)
  | .discard _ h args => dataFits h (0x03 :: args)
  | .read _ h args => dataFits h (0x04 :: args)
  | .status _ h args => dataFits h (0x05 :: args)
  | .channel _ h args => dataFits h (0x06 :: args)
  | .limits _ h args => dataFits h (0x07 :: args)
  | .setReserve _ h args => dataFits h (0x08 :: args)
  | .census _ h args => dataFits h (0x09 :: args)
  | .release _ h args => dataFits h (0x0A :: args)
  | .retain _ h args => dataFits h (0x0B :: args)
  | .restart _ h args => dataFits h (0x0C :: args)
  | .mgmtBadRequest _ h data => dataFits h data && noCommand data

/-- The time in ms that passes before the command's event (log 1). -/
def Instr.elapsed : Instr → Nat
  | .hardwareReset dt _ _ => dt
  | .storeReadEnd dt => dt
  | .managementReset dt => dt
  | .portActiveAfterReset dt _ => dt
  | .symbolViolation dt _ _ => dt
  | .dataOverrun dt _ => dt
  | .bitError dt _ => dt
  | .arbitrationLost dt _ _ => dt
  | .silentEnd dt _ => dt
  | .portFaultEntry dt _ => dt
  | .portFaultEnd dt _ => dt
  | .checkByteMismatch dt _ _ => dt
  | .sample dt _ _ _ => dt
  | .staleTimerExpiry dt => dt
  | .lostTimerExpiry dt => dt
  | .assessment dt => dt
  | .report dt _ _ _ => dt
  | .loadFrameArrival dt _ => dt
  | .panelFrameArrival dt _ => dt
  | .panelSwitchOff dt _ _ => dt
  | .panelSwitchOn dt _ _ => dt
  | .panelSwitchLevel dt _ _ _ => dt
  | .boost dt _ _ _ => dt
  | .switchMalformed dt _ _ _ => dt
  | .boostSwitchOnDeadline dt _ => dt
  | .overrideExpiry dt _ => dt
  | .stopAskTimeout dt _ => dt
  | .waitIdleTimeout dt _ => dt
  | .holdEnd dt _ => dt
  | .readyTimeReached dt => dt
  | .spacingTimerExpiry dt => dt
  | .silenceTimerExpiry dt _ => dt
  | .retryPauseEnd dt _ => dt
  | .loadPortSend dt => dt
  | .panelPortSend dt => dt
  | .attemptNoAnswer dt => dt
  | .frameSent dt _ => dt
  | .terminalOutcome dt _ => dt
  | .stopreqOutcome dt _ => dt
  | .restoreOutcome dt _ => dt
  | .resumeOutcome dt _ => dt
  | .boostSwitchOnOutcome dt _ => dt
  | .resendOutcome dt _ => dt
  | .censusRoundEnd dt _ => dt
  | .opensetEnd dt _ => dt
  | .forwardedOutcome dt _ => dt
  | .storeWriteEnd dt _ => dt
  | .load dt _ _ => dt
  | .commit dt _ _ => dt
  | .discard dt _ _ => dt
  | .read dt _ _ => dt
  | .status dt _ _ => dt
  | .channel dt _ _ => dt
  | .limits dt _ _ => dt
  | .setReserve dt _ _ => dt
  | .census dt _ _ => dt
  | .release dt _ _ => dt
  | .retain dt _ _ => dt
  | .restart dt _ _ => dt
  | .mgmtBadRequest dt _ _ => dt

/-- The same event after another time. -/
def Instr.retime : Instr → Nat → Instr
  | .hardwareReset _ node fall, d => .hardwareReset d node fall
  | .storeReadEnd _, d => .storeReadEnd d
  | .managementReset _, d => .managementReset d
  | .portActiveAfterReset _ port, d => .portActiveAfterReset d port
  | .symbolViolation _ port roll, d => .symbolViolation d port roll
  | .dataOverrun _ port, d => .dataOverrun d port
  | .bitError _ port, d => .bitError d port
  | .arbitrationLost _ port winner, d => .arbitrationLost d port winner
  | .silentEnd _ port, d => .silentEnd d port
  | .portFaultEntry _ port, d => .portFaultEntry d port
  | .portFaultEnd _ port, d => .portFaultEnd d port
  | .checkByteMismatch _ port bytes, d => .checkByteMismatch d port bytes
  | .sample _ head target data, d => .sample d head target data
  | .staleTimerExpiry _, d => .staleTimerExpiry d
  | .lostTimerExpiry _, d => .lostTimerExpiry d
  | .assessment _, d => .assessment d
  | .report _ head target data, d => .report d head target data
  | .loadFrameArrival _ arrival, d => .loadFrameArrival d arrival
  | .panelFrameArrival _ frame, d => .panelFrameArrival d frame
  | .panelSwitchOff _ head ch, d => .panelSwitchOff d head ch
  | .panelSwitchOn _ head ch, d => .panelSwitchOn d head ch
  | .panelSwitchLevel _ head ch level, d => .panelSwitchLevel d head ch level
  | .boost _ head ch minutes, d => .boost d head ch minutes
  | .switchMalformed _ head ch data, d => .switchMalformed d head ch data
  | .boostSwitchOnDeadline _ entry, d => .boostSwitchOnDeadline d entry
  | .overrideExpiry _ entry, d => .overrideExpiry d entry
  | .stopAskTimeout _ ch, d => .stopAskTimeout d ch
  | .waitIdleTimeout _ ch, d => .waitIdleTimeout d ch
  | .holdEnd _ ch, d => .holdEnd d ch
  | .readyTimeReached _, d => .readyTimeReached d
  | .spacingTimerExpiry _, d => .spacingTimerExpiry d
  | .silenceTimerExpiry _ node, d => .silenceTimerExpiry d node
  | .retryPauseEnd _ queue, d => .retryPauseEnd d queue
  | .loadPortSend _, d => .loadPortSend d
  | .panelPortSend _, d => .panelPortSend d
  | .attemptNoAnswer _, d => .attemptNoAnswer d
  | .frameSent _ port, d => .frameSent d port
  | .terminalOutcome _ ans, d => .terminalOutcome d ans
  | .stopreqOutcome _ ans, d => .stopreqOutcome d ans
  | .restoreOutcome _ ans, d => .restoreOutcome d ans
  | .resumeOutcome _ ans, d => .resumeOutcome d ans
  | .boostSwitchOnOutcome _ ans, d => .boostSwitchOnOutcome d ans
  | .resendOutcome _ ans, d => .resendOutcome d ans
  | .censusRoundEnd _ ans, d => .censusRoundEnd d ans
  | .opensetEnd _ ans, d => .opensetEnd d ans
  | .forwardedOutcome _ ans, d => .forwardedOutcome d ans
  | .storeWriteEnd _ good, d => .storeWriteEnd d good
  | .load _ head args, d => .load d head args
  | .commit _ head args, d => .commit d head args
  | .discard _ head args, d => .discard d head args
  | .read _ head args, d => .read d head args
  | .status _ head args, d => .status d head args
  | .channel _ head args, d => .channel d head args
  | .limits _ head args, d => .limits d head args
  | .setReserve _ head args, d => .setReserve d head args
  | .census _ head args, d => .census d head args
  | .release _ head args, d => .release d head args
  | .retain _ head args, d => .retain d head args
  | .restart _ head args, d => .restart d head args
  | .mgmtBadRequest _ head data, d => .mgmtBadRequest d head data

end Sys2Proof
end

