-- ==== Sys2Proof/Certificates/Slice0/Obligations.lean ====
section
/-! DEFINITION. The statements for the provers: what the commands of the VK48 do, from the numbered rules of spec/.
A command carries the milliseconds that pass before it acts (log 1). A docstring names the log entry of a choice of the
model's that its statement rests on. -/

open Sys2Proof Sys2Proof.Machine

namespace Sys2Proof.Claims

/-- A timer's expiry, a deadline or a ready time reached, or the end of a retry pause. -/
def isExpiry : Instr → Bool
  | .staleTimerExpiry _ | .lostTimerExpiry _ | .assessment _ | .boostSwitchOnDeadline _ _ | .overrideExpiry _ _ => true
  | .stopAskTimeout _ _ | .waitIdleTimeout _ _ | .holdEnd _ _ | .readyTimeReached _ | .spacingTimerExpiry _ => true
  | .silenceTimerExpiry _ _ | .retryPauseEnd _ _ => true
  | _ => false

/-- The deadline of a step of this kind is reached at `at'`. -/
def stepDue (s : State) (c : Channel) (k : StepKind) (at' : Nat) : Prop :=
  ∃ x d, s.ctxs[c] = some x ∧ x.deadline = some d ∧ d ≤ at' ∧ (slotAt x.prog x.index).kind = k

/-- The part once the command's elapsed time has passed. -/
abbrev later (s : State) (dt : Nat) : Part := s.toPart.advance dt

/-- The command is carried out, and leaves this part; the queue of waiting commands is untouched. -/
abbrev Becomes (c : Instr) (s : State) (m : Part) : Prop := exec c s = .next { toPart := m, pending := s.pending }

/-- The Panel Port takes a frame with this header: it is ACTIVE, and the frame is not the part's own (R138, R145). -/
abbrev PanelTakes (s : State) (h : Head) : Prop := s.panel.port.state = .active ∧ h.source ≠ s.nodeId

/-- The Load Port takes a frame with this header (R138, R145). -/
abbrev LoadTakes (s : State) (h : Head) : Prop := s.load.port.state = .active ∧ h.source ≠ s.nodeId

/-- The next assessment makes the committed shadow active: the commit is PENDING, and no RESTART has been taken since
(R174, R176, log 30). -/
abbrev swapsAt (s : State) : Prop := s.mgmt.commit = .pending ∧ s.mgmt.restartArmed = false

/-- The tables that are active after stage 1 of an assessment (R27, R174). -/
def tablesAt (s : State) : Tables := if swapsAt s then s.mgmt.shadow else s.mgmt.active

/-- The settings that are active after stage 1 of an assessment (R27, R174). -/
def settingsAt (s : State) : Settings := (tablesAt s).settings

/-- The release count as an assessment in FRESH steps it while critical is set (R45). -/
def releaseStep (s : State) : Nat :=
  if (settingsAt s).vCritical + (settingsAt s).critMargin ≤ s.reserve.vf then min 60 (s.assess.releaseCount + 1) else 0

/-- Critical is clear at stage 6 of an assessment: it was clear, or stage 4 releases it (R27, R45). -/
def clearAtMove (s : State) : Prop :=
  s.assess.critical = false ∨ (s.reserve.monitor = .fresh ∧ (settingsAt s).critRelease ≤ releaseStep s)

/-- The command that repeats the terminal recorded for a channel (R67). -/
def repeatOf (c : Channel) (r : ChanRec) : EngBody :=
  if r.terminal = some .openOut then .switchOff c else .switchLevel c ((r.terminal.map Terminal.code).getD 0)

/-- A command for this purpose waits at the Load Port, in the engine queue or for a slot (R156, R157). -/
def waitsAs (t : State) (b : EngBody) (p : Purpose) : Prop :=
  (∃ e ∈ t.load.engine, e.purpose = p ∧ e.body = b) ∨ ∃ q ∈ t.load.awaiting, q.purpose = p ∧ q.body = b

/-- A DEPTH notice. -/
def isDepth : NoticeBody → Bool
  | .depth _ _ => true
  | _ => false

/-- A notice as it enters the queue (R164, R182). -/
def noticeOf (s : State) (b : NoticeBody) : NoticeEntry :=
  { body := b, lost := s.panel.overflow, number := s.assess.number % 256, attempts := 0, pauseEnd := none }

end Sys2Proof.Claims

open Sys2Proof.Claims

/-! ## The block as a whole -/

/-- The command at the front of the queue is carried out on the state with the queue's rest. The queue is this
model's form of what reaches the part (logs 1 and 2). -/
def Obligations.StepCarriesOutFront : Prop :=
  ∀ (s : State) (c : Instr) (rest : List Instr), s.pending = c :: rest → step s = exec c { s with pending := rest }

/-- With no command waiting one millisecond passes and nothing else, and the expiries that are then due are the waiting
commands: the model's own choice (log 2). -/
def Obligations.IdleMillisecond : Prop :=
  ∀ s : State, s.pending = [] → ∃ t, step s = .next t ∧ t.toPart = s.toPart.advance 1 ∧
    (.assessment 0 ∈ t.pending ↔ s.assess.timerAt ≤ s.now + 1) ∧
    (.staleTimerExpiry 0 ∈ t.pending ↔ ∃ d, s.reserve.staleAt = some d ∧ d ≤ s.now + 1) ∧
    (.lostTimerExpiry 0 ∈ t.pending ↔ ∃ d, s.reserve.lostAt = some d ∧ d ≤ s.now + 1) ∧
    (.spacingTimerExpiry 0 ∈ t.pending ↔ ∃ d, s.seq.spacingAt = some d ∧ d ≤ s.now + 1) ∧
    (∀ i : Fin 4, .overrideExpiry 0 i ∈ t.pending ↔ ∃ o, s.overrides[i] = some o ∧ o.expiry ≤ s.now + 1) ∧
    (∀ i : Fin 4, .boostSwitchOnDeadline 0 i ∈ t.pending ↔
      ∃ o d, s.overrides[i] = some o ∧ o.deadline = some d ∧ d ≤ s.now + 1) ∧
    (∀ n, .silenceTimerExpiry 0 n ∈ t.pending ↔
      ∃ r ∈ s.roster.presence, r.node = n ∧ ∃ d, r.silenceAt = some d ∧ d ≤ s.now + 1) ∧
    (∀ c : Channel, (.stopAskTimeout 0 c ∈ t.pending ↔ stepDue s c .stopAsk (s.now + 1)) ∧
      (.waitIdleTimeout 0 c ∈ t.pending ↔ stepDue s c .waitIdle (s.now + 1)) ∧
      (.holdEnd 0 c ∈ t.pending ↔ stepDue s c .hold (s.now + 1))) ∧
    (.readyTimeReached 0 ∈ t.pending ↔ ∃ c ∈ s.seq.list, s.chans[c].state = .shed ∧
      ∃ d, s.chans[c].offSince = some d ∧ d + 1000 * (s.cfg c).minOff = s.now + 1) ∧
    (.retryPauseEnd 0 .engine ∈ t.pending ↔
      ∃ e d, s.load.engine.head? = some e ∧ e.pauseEnd = some d ∧ d ≤ s.now + 1) ∧
    (.retryPauseEnd 0 .loadForward ∈ t.pending ↔
      ∃ e d, s.load.forward.head? = some e ∧ e.pauseEnd = some d ∧ d ≤ s.now + 1) ∧
    (.retryPauseEnd 0 .notice ∈ t.pending ↔
      ∃ e d, s.panel.notices.head? = some e ∧ e.pauseEnd = some d ∧ d ≤ s.now + 1) ∧
    (.retryPauseEnd 0 .panelForward ∈ t.pending ↔
      ∃ e d, s.panel.forward.head? = some e ∧ e.pauseEnd = some d ∧ d ≤ s.now + 1) ∧
    ∀ i ∈ t.pending, isExpiry i = true ∧ i.elapsed = 0

/-- Every command is carried out, in every state; none touches the queue, and all but the hardware reset keep the
node ID and the fallback depth and let exactly their elapsed time pass (logs 1 and 3). -/
def Obligations.EveryCommandCompletes : Prop :=
  ∀ (c : Instr) (s : State), ∃ t, exec c s = .next t ∧ t.pending = s.pending ∧
    ((∀ dt node fall, c ≠ .hardwareReset dt node fall) →
      t.now = s.now + c.elapsed ∧ t.nodeId = s.nodeId ∧ t.assess.fallback = s.assess.fallback)

/-! ## Invariants -/

/-- No queue ever holds more than its capacity, no waiting frame has used its three attempts, and the engine count
stays within 0..4. -/
def Obligations.QueuesStayBounded : Prop :=
  ∀ s t : State, QueuesBounded s.toPart → step s = .next t → QueuesBounded t.toPart

/-- The Reserve Unit stays within its ranges, and an untrusted reserve stays 0 with no residue and no runtime. -/
def Obligations.ReserveStaysSound : Prop :=
  ∀ s t : State, ReserveSound s.toPart → step s = .next t → ReserveSound t.toPart

/-- Each alert condition goes on agreeing with the state it reports, and ALERT# is low exactly while one of the five is
raised. -/
def Obligations.AlertsStayInAgreement : Prop :=
  ∀ s t : State, AlertsAgree s.toPart → step s = .next t →
    AlertsAgree t.toPart ∧
    (t.alertLow = true ↔ t.alerts.critical = true ∨ t.alerts.monitorLost = true ∨ t.alerts.moduleAbsent = true ∨
      t.alerts.portFault = true ∨ t.alerts.defaults = true)

/-- The shed list, the programme contexts and the override table go on agreeing with the channels' states. -/
def Obligations.ChannelsStayInAgreement : Prop :=
  ∀ s t : State, ChannelsAgree s.toPart → step s = .next t → ChannelsAgree t.toPart

/-- The Roster Unit's frames in the engine queue go on agreeing with the census and opening states, at most one of
each and none beside its own request for a slot, and every intent LEVEL n keeps n in 1..99. -/
def Obligations.SlotsAndIntentsStaySound : Prop :=
  (∀ s t : State, SlotsSound s.toPart → step s = .next t → SlotsSound t.toPart) ∧
  (∀ s t : State, IntentsSound s.toPart → step s = .next t → IntentsSound t.toPart)

/-- The restoring channel is present in IN_FLIGHT only, and the spacing timer runs in SPACING only. -/
def Obligations.SequencerStaysSound : Prop :=
  ∀ s t : State, SequencerSound s.toPart → step s = .next t → SequencerSound t.toPart

/-- Every table copy, the applied depth, the demands and the counts of assessments stay within their ranges. While
critical is set the applied depth is 7, the restore-hold count 0 and the override table empty; that the depth never
exceeds 7 is the premise `RangesSound`. -/
def Obligations.RangesAndCriticalStaySound : Prop :=
  (∀ s t : State, RangesSound s.toPart → step s = .next t → RangesSound t.toPart) ∧
  (∀ s t : State, RangesSound s.toPart → CriticalSound s.toPart → step s = .next t → CriticalSound t.toPart)

/-- The state after reset meets every invariant. -/
def Obligations.ResetIsSound : Prop :=
  QueuesBounded State.reset.toPart ∧ ReserveSound State.reset.toPart ∧ AlertsAgree State.reset.toPart ∧
    ChannelsAgree State.reset.toPart ∧ SequencerSound State.reset.toPart ∧ RangesSound State.reset.toPart ∧
    CriticalSound State.reset.toPart ∧ SlotsSound State.reset.toPart ∧ IntentsSound State.reset.toPart

/-! ## 01: samples, charge counting, the runtime -/

/-- A SAMPLE is taken from the monitor node with 5 bytes of data alone; a taken one whose sequence is the last one
changes nothing of the Reserve Unit, and every other is accepted, the first after an absent sequence among them. An
accepted one is the last sequence and the last arrival, and clears the seed mark. -/
def Obligations.SampleIntake : Prop :=
  ∀ (s : State) (dt : Nat) (h : Head) (target : BitVec 7) (data : List Byte),
    LoadTakes s h → dataFits h data →
    ∃ t, exec (.sample dt h target data) s = .next t ∧
      (data.length ≠ 5 ∨ h.source.toNat ≠ s.settings.monitorNode → t.reserve = s.reserve) ∧
      ∀ q v1 v0 i1 i0, data = [q, v1, v0, i1, i0] → h.source.toNat = s.settings.monitorNode →
        if s.reserve.lastSeq = some q then t.reserve = s.reserve
        else t.reserve.lastSeq = some q ∧ t.reserve.lastArrival = some (s.now + dt) ∧ t.reserve.seed = false

/-- An accepted sample makes the monitor FRESH with both timers restarted, from LOST with the reserve no longer
trusted; and while it is trusted, a sample that is not seeding counts its charge P = I × elapsed, scaled by the
acceptance factor when charging, to a hundredth of a mA·s, saturating at 0 and at C_mAs. -/
def Obligations.SampleCharge : Prop :=
  ∀ (s : State) (dt : Nat) (h : Head) (target : BitVec 7) (q v1 v0 i1 i0 : Byte),
    LoadTakes s h → h.source.toNat = s.settings.monitorNode → s.reserve.lastSeq ≠ some q →
    ∃ t, exec (.sample dt h target [q, v1, v0, i1, i0]) s = .next t ∧
      t.reserve.monitor = .fresh ∧
      t.reserve.staleAt = some (s.now + dt + 2000) ∧ t.reserve.lostAt = some (s.now + dt + 30000) ∧
      (if s.reserve.monitor = .lost then
        t.reserve.valid = false ∧ t.reserve.reserve = 0 ∧ t.reserve.residue = 0 ∧ t.reserve.runtime = none
      else
        t.reserve.valid = s.reserve.valid ∧ t.reserve.runtime = s.reserve.runtime ∧
        (s.reserve.valid = false ∨ s.reserve.seed = true →
          t.reserve.reserve = s.reserve.reserve ∧ t.reserve.residue = s.reserve.residue) ∧
        ∀ a, s.reserve.valid = true → s.reserve.seed = false → s.reserve.lastArrival = some a →
          let current := ofBe16s i1 i0
          let elapsed : Nat := if s.now + dt - a < 1 then 1 else if 500 < s.now + dt - a then 500 else s.now + dt - a
          let p : Int :=
            if current < 0 then (current * elapsed * s.settings.acceptance).tdiv 1000 else current * elapsed
          let sum := s.reserve.residue + p
          let next : Int := s.reserve.reserve - sum.tdiv 100
          if s.settings.cMas < next then t.reserve.reserve = s.settings.cMas ∧ t.reserve.residue = 0
          else if next < 0 then t.reserve.reserve = 0 ∧ t.reserve.residue = 0
          else (t.reserve.reserve : Int) = next ∧ t.reserve.residue = sum - sum.tdiv 100 * 100)

/-- At every accepted sample Vc is the voltage plus truncate(I × Rint / 1000) within 0..65535, and both filters are
seeded from a seeding sample and stepped by their shifts otherwise, toward their inputs and no further. The critical
count runs over accepted samples with Vf below V_critical, saturating at 20; at the debounce it gives the
critical-entry signal at that sample and at each further low one. A signal taken while critical is set sets the
release count to 0 and does nothing else at the Assessment Unit. -/
def Obligations.FiltersAndCriticalCount : Prop :=
  (∀ (s : State) (dt : Nat) (h : Head) (target : BitVec 7) (q v1 v0 i1 i0 : Byte),
     LoadTakes s h → h.source.toNat = s.settings.monitorNode → s.reserve.lastSeq ≠ some q →
     ∃ t, exec (.sample dt h target [q, v1, v0, i1, i0]) s = .next t ∧
       let current := ofBe16s i1 i0
       let vc : Int := max 0 (min 65535 (ofBe16 v1 v0 + (current * s.settings.rint).tdiv 1000))
       (s.reserve.seed = true → (t.reserve.vf : Int) = vc ∧ t.reserve.cur = current) ∧
       (s.reserve.seed = false →
         (t.reserve.vf : Int) = s.reserve.vf + (vc - s.reserve.vf).tdiv (2 ^ s.settings.kv) ∧
         t.reserve.cur = s.reserve.cur + (current - s.reserve.cur).tdiv (2 ^ s.settings.ki)) ∧
       (s.reserve.vf ≤ 65535 → t.reserve.vf ≤ 65535) ∧
       (-32768 ≤ s.reserve.cur ∧ s.reserve.cur ≤ 32767 → -32768 ≤ t.reserve.cur ∧ t.reserve.cur ≤ 32767)) ∧
  (∀ (s : State) (dt : Nat) (h : Head) (target : BitVec 7) (q v1 v0 i1 i0 : Byte),
     LoadTakes s h → h.source.toNat = s.settings.monitorNode → s.reserve.lastSeq ≠ some q →
     ∃ t, exec (.sample dt h target [q, v1, v0, i1, i0]) s = .next t ∧
       let low := t.reserve.vf < s.settings.vCritical
       t.reserve.critCount = (if low then min 20 (s.reserve.critCount + 1) else 0) ∧
       (low ∧ s.settings.critDebounce ≤ t.reserve.critCount →
         if s.assess.critical then t.assess = { s.assess with releaseCount := 0 }
         else t.assess.critical = true ∧ t.assess.releaseCount = 0) ∧
       (¬(low ∧ s.settings.critDebounce ≤ t.reserve.critCount) → t.assess = s.assess))

/-- At the expiry of the stale timer in FRESH the monitor is STALE with the seed mark set, and a MONITOR notice is
produced; nothing else changes. At the expiry of the lost timer in AWAITING or STALE the monitor is LOST with the seed
mark set, MONITOR_LOST is raised and a MONITOR notice produced; nothing else changes. -/
def Obligations.MonitorTimers : Prop :=
  (∀ (s : State) (dt d : Nat), AlertsAgree s.toPart → s.reserve.monitor = .fresh → s.reserve.staleAt = some d →
     d ≤ s.now + dt →
     Becomes (.staleTimerExpiry dt) s
       (Part.notify { later s dt with
         reserve := { s.reserve with monitor := .stale, seed := true, staleAt := none } } (.monitor .stale))) ∧
  (∀ (s : State) (dt d : Nat), s.reserve.monitor = .awaiting ∨ s.reserve.monitor = .stale →
     s.reserve.lostAt = some d → d ≤ s.now + dt →
     Becomes (.lostTimerExpiry dt) s
       (Part.notify { later s dt with
         reserve := { s.reserve with monitor := .lost, seed := true, lostAt := none }
         alerts := { s.alerts with monitorLost := true } } (.monitor .lost)))

/-! ## 02: assessments, the applied depth, critical -/

/-- At an assessment the number increases by one, 0 after 65535; the timer runs on from its own expiry; the unsettled
mark is cleared. At an assessment the voltage guard steps its count of qualifying assessments and changes at the
debounce in FRESH, and keeps state and count in every other monitor state; the runtime guard follows the runtime of
this assessment by the first condition that holds. Both read the settings that are active after a swap. -/
def Obligations.NumberAndGuards : Prop :=
  (∀ (s : State) (dt : Nat), s.assess.timerAt ≤ s.now + dt →
     ∃ t, exec (.assessment dt) s = .next t ∧
       t.assess.number = (if s.assess.number % 65536 = 65535 then 0 else s.assess.number % 65536 + 1) ∧
       t.assess.timerAt = s.assess.timerAt + 1000 ∧ t.assess.unsettled = false ∧
       t.reserve.monitor = s.reserve.monitor ∧ t.reserve.vf = s.reserve.vf ∧ t.reserve.cur = s.reserve.cur ∧
       t.reserve.critCount = s.reserve.critCount ∧ t.reserve.staleAt = s.reserve.staleAt ∧
       t.reserve.lostAt = s.reserve.lostAt) ∧
  (∀ (s : State) (dt : Nat), s.assess.timerAt ≤ s.now + dt →
     ∃ t, exec (.assessment dt) s = .next t ∧
       let v := settingsAt s
       (if s.reserve.monitor = .fresh then
         let low := s.assess.vGuard = .released ∧ s.reserve.vf < v.vGuard
         let high := s.assess.vGuard = .active ∧ v.vGuard + v.guardMargin ≤ s.reserve.vf
         let n := if low ∨ high then min 60 (s.assess.vGuardCount + 1) else 0
         if v.guardDebounce ≤ n then
           t.assess.vGuard = (if s.assess.vGuard = .released then .active else .released) ∧ t.assess.vGuardCount = 0
         else t.assess.vGuard = s.assess.vGuard ∧ t.assess.vGuardCount = n
       else t.assess.vGuard = s.assess.vGuard ∧ t.assess.vGuardCount = s.assess.vGuardCount) ∧
       t.assess.rGuard =
         (if v.runtimeThreshold = 0 then .released
         else if t.reserve.runtime = none then .released
         else if t.reserve.runtime.getD 0 < v.runtimeThreshold then .active
         else if v.runtimeThreshold + v.runtimeMargin ≤ t.reserve.runtime.getD 0 then .released
         else s.assess.rGuard))

/-- At an assessment without a swap, full-charge synchronisation counts assessments at which the full-charge condition
holds and makes the reserve full and valid at the full hold; and the runtime is then the minutes above the floor at the
filtered current, 0 at or below the floor, 65535 below 100 mA, and absent while the reserve is not valid. -/
def Obligations.ReserveAtAssessment : Prop :=
  ∀ (s : State) (dt : Nat), s.assess.timerAt ≤ s.now + dt → ¬swapsAt s →
    ∃ t, exec (.assessment dt) s = .next t ∧
      let v := s.settings
      let full := v.vFull ≠ 0 ∧ s.reserve.monitor = .fresh ∧ v.vFull ≤ s.reserve.vf ∧ -(v.tail : Int) ≤ s.reserve.cur ∧
        s.reserve.cur ≤ 0
      let above : Int := t.reserve.reserve - v.cMas * v.floor / 1000
      (if full ∧ v.fullHold ≤ s.reserve.fullHold + 1 then
        t.reserve.reserve = v.cMas ∧ t.reserve.residue = 0 ∧ t.reserve.valid = true ∧ t.reserve.fullHold = 0
      else
        t.reserve.reserve = s.reserve.reserve ∧ t.reserve.residue = s.reserve.residue ∧
        t.reserve.valid = s.reserve.valid ∧ t.reserve.fullHold = (if full then s.reserve.fullHold + 1 else 0)) ∧
      t.reserve.runtime.isSome = t.reserve.valid ∧
      ∀ m ∈ t.reserve.runtime,
        if above ≤ 0 then m = 0 else if s.reserve.cur < 10 then m = 65535
        else (m : Int) = min 65535 (above / (s.reserve.cur * 600))

/-- At every assessment the demands E and D are the largest of the counted terms: the band of the state of charge (for
D, of the state of charge less the hysteresis, not below 0) while the reserve is valid, the guard depth and the
runtime depth while their guards are ACTIVE, and the fallback depth while the monitor is LOST; 0 when none counts. D
is at or above E at every assessment, for tables that pass the BANDS check of COMMIT. -/
def Obligations.Demands : Prop :=
  (∀ (s : State) (dt : Nat), s.assess.timerAt ≤ s.now + dt →
     ∃ t, exec (.assessment dt) s = .next t ∧
       let v := settingsAt s
       let soc := t.reserve.reserve * 1000 / v.cMas
       let rest := max (if t.assess.vGuard = .active then v.guardDepth else 0)
         (max (if t.assess.rGuard = .active then v.runtimeDepth else 0)
           (if s.reserve.monitor = .lost then s.assess.fallback else 0))
       t.assess.escalation = max (if t.reserve.valid then (tablesAt s).band soc else 0) rest ∧
       t.assess.restore = max (if t.reserve.valid then (tablesAt s).band (soc - v.hysteresis) else 0) rest) ∧
  (∀ (s : State) (dt : Nat), s.assess.timerAt ≤ s.now + dt → (tablesAt s).checkBands = none →
     ∃ t, exec (.assessment dt) s = .next t ∧ t.assess.escalation ≤ t.assess.restore)

/-- Where an assessment without a swap leaves the applied depth and the restore-hold count while critical is clear, or
is released at this assessment: held in AWAITING and STALE; raised to the fallback depth, or by one tier toward E, in
LOST; in FRESH raised by one tier toward E, or lowered by one tier once D has lain below it for the restore hold; held
at an unsettled assessment but for the fallback. Each change of the applied depth at an assessment without a swap,
while critical is clear, produces one DEPTH notice with its cause: RESTORE for a fall, LOST for the raise to the
fallback depth, and for a rise toward E the first counted term equal to E in the order BAND, GUARD, RUNTIME, LOST. An
unchanged depth produces none. An unsettled assessment in LOST that raises nothing sets the count to 0 (log 36). -/
def Obligations.DepthMovesWithNotice : Prop :=
  (∀ (s : State) (dt : Nat), s.assess.timerAt ≤ s.now + dt → ¬swapsAt s → clearAtMove s →
     ∃ t, exec (.assessment dt) s = .next t ∧ t.assess.critical = false ∧
       let depth := s.assess.depth
       let moved (d hold : Nat) : Prop := t.assess.depth = d ∧ t.assess.holdCount = hold
       if s.reserve.monitor = .awaiting ∨ s.reserve.monitor = .stale then
         moved depth (if s.assess.unsettled then 0 else s.assess.holdCount)
       else if s.reserve.monitor = .lost ∧ depth < s.assess.fallback then moved s.assess.fallback 0
       else if s.assess.unsettled then moved depth 0
       else if depth < t.assess.escalation then moved (depth + 1) 0
       else if s.reserve.monitor = .lost then moved depth s.assess.holdCount
       else if depth ≤ t.assess.restore then moved depth 0
       else if s.settings.restoreHold ≤ s.assess.holdCount + 1 then moved (depth - 1) 0
       else moved depth (s.assess.holdCount + 1)) ∧
  (∀ (s : State) (dt : Nat), s.assess.timerAt ≤ s.now + dt → ¬swapsAt s → s.assess.critical = false →
     s.panel.notices.length < 4 →
     ∃ t, exec (.assessment dt) s = .next t ∧
       let v := s.settings
       let e := t.assess.escalation
       let cause : Cause :=
         if t.assess.depth < s.assess.depth then .restore
         else if s.reserve.monitor = .lost ∧ s.assess.depth < s.assess.fallback then .lost
         else if t.reserve.valid ∧ s.mgmt.active.band (t.reserve.reserve * 1000 / v.cMas) = e then .band
         else if t.assess.vGuard = .active ∧ v.guardDepth = e then .guard
         else if t.assess.rGuard = .active ∧ v.runtimeDepth = e then .runtime
         else .lost
       let added := t.panel.notices.drop s.panel.notices.length
       if t.assess.depth = s.assess.depth then ∀ x ∈ added, isDepth x.body = false
       else added.head? =
           some { noticeOf s (.depth t.assess.depth cause) with number := t.assess.number % 256 } ∧
         ∀ x ∈ added.tail, isDepth x.body = false)

/-- At a rise, each LIVE channel of the newly included tiers enters SHEDDING when on, as the newest entries of the
shed list in ascending order, with its programme begun; when off it becomes BARRED, with the off-since time now if it
was absent. No other channel changes state. At a fall, each BARRED channel whose tier now lies above the depth becomes
LIVE with intent OFF and its off-since time kept, and nothing else leaves its state but a SHED channel that the pick
of the same fall restores. -/
def Obligations.DepthChangeMovesChannels : Prop :=
  (∀ (s : State) (dt : Nat), s.assess.timerAt ≤ s.now + dt → ¬swapsAt s → s.assess.critical = false →
     ∃ t, exec (.assessment dt) s = .next t ∧
       (s.assess.depth < t.assess.depth →
         let newly (c : Channel) : Bool :=
           decide (s.chans[c].state = .live ∧ s.assess.depth < s.tier c ∧ s.tier c ≤ t.assess.depth)
         t.seq.list = (allChannels.filter fun c => newly c && s.isOn c).reverse ++ s.seq.list ∧
         ∀ c : Channel,
           if newly c then
             if s.isOn c then t.chans[c].state = .shedding ∧ t.ctxs[c].isSome = true
             else t.chans[c].state = .barred ∧ t.chans[c].offSince = some (s.chans[c].offSince.getD (s.now + dt))
           else t.chans[c].state = s.chans[c].state)) ∧
  (∀ (s : State) (dt : Nat), s.assess.timerAt ≤ s.now + dt → ¬swapsAt s → s.assess.critical = false →
     ∃ t, exec (.assessment dt) s = .next t ∧
       (t.assess.depth < s.assess.depth →
         ∀ c : Channel,
           if s.chans[c].state = .barred ∧ t.assess.depth < s.tier c then
             t.chans[c].state = .live ∧ t.chans[c].intent = some .off ∧ t.chans[c].offSince = s.chans[c].offSince
           else if s.chans[c].state = .shed then
             t.chans[c].state = .shed ∨ t.chans[c].state = .restoring ∨ t.chans[c].state = .live
           else t.chans[c].state = s.chans[c].state))

/-- At each assessment without a swap, a fall, or a release of critical, while critical is set as while it is clear,
the resend marks are cleared, and the terminal of every SHED, unconfirmed, reachable channel of tier 1 or more with
none in flight is queued again, its marks set and its off-since time now. The resend comes after stage 7 (log 11). -/
def Obligations.ResendAtAssessment : Prop :=
  ∀ (s : State) (dt : Nat), s.assess.timerAt ≤ s.now + dt → ¬swapsAt s →
    ∃ t, exec (.assessment dt) s = .next t ∧
      (s.assess.depth ≤ t.assess.depth → t.assess.critical = s.assess.critical →
        ∀ c : Channel,
          let r := s.chans[c]
          if r.state = .shed ∧ r.confirmed = false ∧ 1 ≤ s.tier c ∧ r.unreachable = false ∧ r.inFlight = false ∧
            r.terminal.isSome then
            t.chans[c].resend = true ∧ t.chans[c].inFlight = true ∧ t.chans[c].offSince = some (s.now + dt) ∧
            let body : EngBody := if r.terminal = some .openOut then .switchOff c
              else .switchLevel c ((r.terminal.map Terminal.code).getD 0)
            ((∃ e ∈ t.load.engine, e.purpose = .resend ∧ e.body = body) ∨
              ∃ q ∈ t.load.awaiting, q.purpose = .resend ∧ q.body = body)
          else t.chans[c].resend = false)

/-- While critical is set, an assessment in FRESH counts toward its release with Vf at or above V_critical plus the
margin, and releases it at the critical release setting, clearing CRITICAL and the count; in the other monitor states
the count is kept and critical is not released. While it stays set the depth and the restore-hold count stay. -/
def Obligations.CriticalRelease : Prop :=
  ∀ (s : State) (dt : Nat), s.assess.timerAt ≤ s.now + dt → s.assess.critical = true → s.alerts.critical = true →
    ∃ t, exec (.assessment dt) s = .next t ∧
      let v := settingsAt s
      let n := if v.vCritical + v.critMargin ≤ s.reserve.vf then min 60 (s.assess.releaseCount + 1) else 0
      if s.reserve.monitor = .fresh ∧ v.critRelease ≤ n then
        t.assess.critical = false ∧ t.alerts.critical = false ∧ t.assess.releaseCount = 0
      else
        t.assess.critical = true ∧ t.alerts.critical = true ∧ t.assess.depth = s.assess.depth ∧
        t.assess.holdCount = s.assess.holdCount ∧
        t.assess.releaseCount = (if s.reserve.monitor = .fresh then n else s.assess.releaseCount)

/-- A sample that gives the critical-entry signal while critical is clear: critical and CRITICAL are set, the depth is
7, both counts are 0, every override ends, every channel that is LIVE in tier 1 or more or OVERRIDDEN is SHEDDING, or
BARRED when it was off, and each unprotected SHEDDING channel stands at its terminal: the marked ones, all OPEN, in the
group opening (logs 14 and 15). The channels that become SHEDDING head the shed list, the highest tier and channel
newest, and a depth below 7 gives one DEPTH notice, with the cause CRITICAL. -/
def Obligations.CriticalEntry : Prop :=
  ∀ (s : State) (dt : Nat) (h : Head) (target : BitVec 7) (q v1 v0 i1 i0 : Byte),
    LoadTakes s h → h.source.toNat = s.settings.monitorNode → s.reserve.lastSeq ≠ some q →
    ChannelsAgree s.toPart → s.assess.depth ≤ 7 → s.assess.critical = false →
    ∃ t, exec (.sample dt h target [q, v1, v0, i1, i0]) s = .next t ∧
      (t.reserve.vf < s.settings.vCritical ∧ s.settings.critDebounce ≤ t.reserve.critCount →
        t.assess.critical = true ∧ t.alerts.critical = true ∧ t.assess.depth = 7 ∧ t.assess.releaseCount = 0 ∧
        t.assess.holdCount = 0 ∧ (∀ i : Fin 4, t.overrides[i] = none) ∧
        (∀ c : Channel,
          t.chans[c].state =
            (if s.chans[c].state = .overridden then .shedding
            else if s.chans[c].state = .live ∧ 1 ≤ s.tier c then
              if s.marked c ∨ s.isOn c then .shedding else .barred
            else s.chans[c].state)) ∧
        (∀ c : Channel, t.chans[c].state = .shedding → (s.cfg c).protect = false →
          t.ctxs[c].map Context.awaited = some .terminal ∨ t.ctxs[c].map Context.awaited = some .opening) ∧
        (let entered (c : Channel) : Bool := decide (s.chans[c].state = .overridden ∨
            (s.chans[c].state = .live ∧ 1 ≤ s.tier c ∧ (s.marked c ∨ s.isOn c)))
          let ascending := (List.range 8).flatMap fun k => allChannels.filter fun c => decide (min 7 (s.tier c) = k)
          t.seq.list = (ascending.filter entered).reverse ++ s.seq.list) ∧
        (s.panel.notices.length < 3 →
          ((t.panel.notices.drop s.panel.notices.length).map NoticeEntry.body).filter isDepth =
            if s.assess.depth < 7 then [.depth 7 .critical] else []) ∧
        ∀ c : Channel, s.marked c →
          t.chans[c].terminal = some .openOut ∧ t.chans[c].inFlight = true ∧
          t.chans[c].offSince = some (s.now + dt) ∧ t.ctxs[c].map Context.awaited = some .opening ∧
          (c ∈ t.roster.openingSet ∨ c ∈ t.roster.further))

/-! ## 03: the channel table -/

namespace Sys2Proof.Claims

/-- The state in which a panel SWITCH OFF leaves a channel (R62). -/
def stateAfterOff (s : State) (c : Channel) : ChanState :=
  match s.chans[c].state with
  | .shedding | .shed => .barred
  | .overridden => if s.inZone c then .barred else .live
  | x => x

/-- The state in which a panel SWITCH ON or LEVEL leaves a channel (R62). -/
def stateAfterOn (s : State) (c : Channel) : ChanState :=
  match s.chans[c].state with
  | .barred => .shed
  | x => x

/-- A panel SWITCH ON or LEVEL is HELD in these states (R62). -/
def heldIn : ChanState → Bool
  | .shedding | .shed | .barred => true
  | _ => false

/-- The Panel Port gives a verdict and nothing else happens. -/
def verdictOnly (s : State) (dt : Nat) (v : Byte) : Part := Part.giveVerdict (later s dt) v

/-- A forwarded SWITCH as it enters the load forward queue (R153). -/
def forwarded (s : State) (h : Head) (c : Channel) (data : List Byte) : FwdEntry :=
  { frame := switchTo h c data, tie := s.owner c, attempts := 0, pauseEnd := none }

/-- The notice queue after a channel's change of state, if it is one with a notice (R76). -/
def noticesAfter (s : State) (c : Channel) (st : ChanState) : List NoticeEntry :=
  if s.chans[c].state ≠ st ∧ Part.noticed st then (s.toPart.notify (.channel c st)).panel.notices else s.panel.notices

/-- The notice-overflow mark after it (R164). -/
def overflowAfter (s : State) (c : Channel) (st : ChanState) : Bool :=
  if s.chans[c].state ≠ st ∧ Part.noticed st then (s.toPart.notify (.channel c st)).panel.overflow else s.panel.overflow

/-- The SWITCH that carries a channel's intent (R50). -/
def commandOf (s : State) (c : Channel) : EngBody :=
  match s.chans[c].intent with
  | some .on => .switchOn c
  | some (.level n) => .switchLevel c n
  | _ => .switchOff c

/-- The queue entry of a command the part asks for while the engine queue has room (R156). -/
def queuedAs (s : State) (b : EngBody) (p : Purpose) : EngEntry :=
  { body := b, purpose := p, tie := b.channel.bind s.owner, attempts := 0, pauseEnd := none, leaving := false }

/-- An entry is eligible for restore (R102, R103). -/
def eligibleIn (s : State) (c : Channel) : Bool :=
  decide (s.chans[c].state = .shed ∧ s.inZone c = false ∧ s.assess.critical = false ∧
    (s.chans[c].offSince.map fun x => x + 1000 * (s.cfg c).minOff).getD 0 ≤ s.now)

/-- With no room in the engine queue the restoring command takes the place of a repeated terminal of the channel that
awaits a slot, and no other terminal of the channel stands (R60, R158, logs 39 and 43). -/
def pickEndsTerminal (s : State) (c : Channel) : Bool :=
  let replaced (r : Request) : Bool := r.body.sameKind (commandOf s c)
  let kept : Part := { s.toPart with load := { s.load with awaiting := s.load.awaiting.filter fun r => !replaced r } }
  decide (8 ≤ s.load.engine.length) && (s.load.awaiting.any fun r => replaced r && r.purpose.isTerminal) &&
    !kept.terminalStands c

/-- A pick made in `s` leads to `t`: with no eligible entry nothing changes; otherwise the newest one leaves the list, and
its restoring command is queued, or it becomes LIVE unsent (R105, R106). -/
def picksFrom (s t : State) : Prop :=
  let picked := s.seq.list.find? (eligibleIn s)
  (picked = none → t.toPart = s.toPart) ∧
  ∀ c, picked = some c →
    t.seq.list = s.seq.list.filter (· ≠ c) ∧ (∀ d : Channel, d ≠ c → t.chans[d] = s.chans[d]) ∧
    t.ctxs = s.ctxs ∧ t.ctxSerial = s.ctxSerial ∧ t.overrides = s.overrides ∧ t.reserve = s.reserve ∧
    t.assess = s.assess ∧ t.roster = s.roster ∧ t.mgmt = s.mgmt ∧ t.alerts = s.alerts ∧
    if commandOf s c = .switchOff c ∧ s.tier c = 0 then
      t.chans[c] = { s.chans[c] with state := .live, confirmed := false } ∧ t.load = s.load ∧
      t.seq.state = .spacing ∧ t.seq.restoring = none ∧
      t.seq.spacingAt = some (s.now + s.settings.restoreSpacing) ∧
      t.panel = (s.toPart.notify (.channel c .live)).panel
    else
      t.chans[c] = { s.chans[c] with
        state := .restoring
        offSince := if commandOf s c = .switchOff c then s.chans[c].offSince else none
        inFlight := s.chans[c].inFlight && !pickEndsTerminal s c } ∧
      waitsAs t (commandOf s c) .restore ∧
      (s.load.engine.length < 8 →
        t.load = { s.load with engine := s.load.engine ++ [queuedAs s (commandOf s c) .restore] }) ∧
      t.seq.state = .inFlight ∧ t.seq.restoring = some c ∧ t.panel = s.panel

/-- What no panel SWITCH OFF, ON or LEVEL touches: at the Load Port nothing but its forward queue, at the Restore
Sequencer nothing but the shed list, at the Panel Port nothing but its notices and the answer it gives (R108). -/
def switchFrameRule (s t : State) (c : Channel) : Prop :=
  t.reserve = s.reserve ∧ t.assess = s.assess ∧ t.roster = s.roster ∧ t.mgmt = s.mgmt ∧ t.alerts = s.alerts ∧
  t.ctxSerial = s.ctxSerial ∧ t.load = { s.load with forward := t.load.forward } ∧
  t.seq = { s.seq with list := t.seq.list } ∧
  t.panel = { s.panel with
    answer := t.panel.answer
    port := { s.panel.port with position := .answerField }
    notices := t.panel.notices
    overflow := overflowAfter s c t.chans[c].state } ∧
  ∀ d : Channel, d ≠ c → t.chans[d] = s.chans[d]

/-- A BARRED channel is SHED by a held ON or LEVEL, before the pick that this entry makes due (R62, R99, R104). -/
def heldOn (s : State) (dt : Nat) (c : Channel) (i : Intent) : State :=
  { s with toPart := Part.giveVerdict { later s dt with
      chans := s.chans.set c { s.chans[c] with state := .shed, intent := some i }
      seq := { s.seq with list := c :: s.seq.list }
      panel := (s.toPart.notify (.channel c .shed)).panel } 0x11 }

/-- What a panel SWITCH ON or LEVEL that carries this intent does (R61, R62, R104). -/
def switchToRule (s t : State) (dt : Nat) (h : Head) (c : Channel) (data : List Byte) (i : Intent) : Prop :=
  t.panel.answer = .verdict (if heldIn s.chans[c].state then 0x11 else 0x10) ∧
  if s.chans[c].state = .barred ∧ s.seq.state = .idle then picksFrom (heldOn s dt c i) t
  else
    t.load.forward = (if heldIn s.chans[c].state then s.load.forward
      else s.load.forward ++ [forwarded s h c data]) ∧
    t.chans[c] =
      { s.chans[c] with
        state := stateAfterOn s c
        intent := if s.chans[c].state = .released then s.chans[c].intent else some i } ∧
    t.seq.list = (if s.chans[c].state = .barred then c :: s.seq.list else s.seq.list) ∧
    t.ctxs = s.ctxs ∧ t.overrides = s.overrides ∧
    t.panel.notices = noticesAfter s c (stateAfterOn s c) ∧ switchFrameRule s t c

/-- A BOOST meets every condition of its grant (R63). -/
def boostMeets (s : State) (c : Channel) : Prop :=
  (s.chans[c].state = .live ∨ s.chans[c].state = .shedding ∨ s.chans[c].state = .shed ∨ s.chans[c].state = .barred ∨
    s.chans[c].state = .restoring ∨ s.chans[c].state = .overridden) ∧
  1 ≤ s.tier c ∧ (s.cfg c).boostOk = true ∧ s.assess.critical = false ∧
  ∃ i : Fin 4, s.overrides[i] = none ∨ s.overrides[i].map Override.ch = some c

/-- The switch-on deadline of the channel's override entry, while one is pending (R65). -/
def pendingOf (s : State) (c : Channel) : Option Nat :=
  s.overrides.toList.findSome? fun o => if o.map Override.ch = some c then o.bind Override.deadline else none

/-- The restores and resumes of a channel that are in flight, in the order of their queuing (R65). -/
def returnsOf (s : State) (c : Channel) : List EngBody :=
  let mine (p : Purpose) (b : EngBody) : Bool := decide ((p = .restore ∨ p = .resume) ∧ b.channel = some c)
  (s.load.engine.filter fun e => !e.leaving && mine e.purpose e.body).map EngEntry.body
    ++ (s.load.awaiting.filter fun r => mine r.purpose r.body).map Request.body

/-- A BOOST granted now needs a switch-on (R65; log 31 where several returns are in flight). -/
def darkAtBoost (s : State) (c : Channel) : Bool :=
  match s.chans[c].state with
  | .shed | .barred => true
  | .shedding => s.ctxs[c].any Context.requestSent || s.chans[c].inFlight || s.chans[c].level == some 0
  | .restoring => (returnsOf s c).getLast? == some (.switchOff c)
  | .overridden => s.chans[c].level == some 0 && pendingOf s c == none
  | .live => s.chans[c].level == some 0
  | .unknown | .released => false

/-- The channel's part in a REPORT has been taken into its last reported fields (R140). -/
def reported (r : ChanRec) (l i a : Byte) : Prop :=
  r.level = some l.toNat ∧ r.current = some (if 250 < i.toNat then 255 else i.toNat) ∧
  r.status = some (if a = 1 then .running else if a = 2 then .stopped else if a = 3 then .fault else .none)

end Sys2Proof.Claims

/-- A REPORT entry from the channel's owning module resolves an UNKNOWN channel: intent from the level; SHEDDING, as
the newest entry, in the shed zone and on; BARRED, with the off-since time now, in the shed zone and off; LIVE
otherwise. LIVE and BARRED are noticed. A REPORT entry from the owning module updates the last reported fields in
every state. A LIVE or OVERRIDDEN channel takes its intent from it; a BARRED one with output takes its intent and
enters SHEDDING, but in tier 0, where it stays BARRED (log 46); a SHED one that is stray-on, of tier 1 or more,
reachable, with no terminal in flight and no resend mark, has its terminal queued again; otherwise state and intent
stay. An entry from another node is ignored. -/
def Obligations.Reports : Prop :=
  (∀ (s : State) (dt : Nat) (h : Head) (target : BitVec 7) (c : Channel) (l i a l' i' a' : Byte),
     LoadTakes s h → s.owner c = some h.source → l.toNat ≤ 100 → s.chans[c].state = .unknown →
     ∃ t, exec (.report dt h target [byteOf c.val, l, i, a, l', i', a']) s = .next t ∧
       reported t.chans[c] l i a ∧ t.chans[c].intent = some (Intent.ofLevel l.toNat) ∧
       if s.inZone c then
         if 0 < l.toNat then
           t.chans[c].state = .shedding ∧ c :: s.seq.list <:+ t.seq.list ∧ t.ctxs[c].isSome = true
         else
           t.chans[c].state = .barred ∧ t.chans[c].offSince = some (s.now + dt) ∧
           noticesAfter s c .barred <+: t.panel.notices
       else t.chans[c].state = .live ∧ noticesAfter s c .live <+: t.panel.notices) ∧
  (∀ (s : State) (dt : Nat) (h : Head) (target : BitVec 7) (c : Channel) (l i a l' i' a' : Byte),
     LoadTakes s h → l.toNat ≤ 100 → s.chans[c].state ≠ .unknown → s.nodeAbsent (some h.source) = false →
     ∃ t, exec (.report dt h target [byteOf c.val, l, i, a, l', i', a']) s = .next t ∧
       let r := s.chans[c]
       let above := r.terminal = some .openOut ∧ 0 < l.toNat ∨
         ∃ n ∈ List.range 100, r.terminal = some (.dim n) ∧ n < l.toNat
       if s.owner c ≠ some h.source then t.chans[c] = r
       else
         reported t.chans[c] l i a ∧
         (r.state = .live ∨ r.state = .overridden →
           t.chans[c].state = r.state ∧ t.chans[c].intent = some (Intent.ofLevel l.toNat)) ∧
         (r.state = .barred ∧ 0 < l.toNat →
           t.chans[c].intent = some (Intent.ofLevel l.toNat) ∧
           if s.tier c = 0 then
             t.chans[c].state = .barred ∧ (c ∈ t.seq.list ↔ c ∈ s.seq.list) ∧ t.ctxs[c] = s.ctxs[c]
           else t.chans[c].state = .shedding ∧ c ∈ t.seq.list) ∧
         (r.state = .shed ∨ r.state = .shedding ∨ r.state = .restoring ∨ r.state = .released ∨
             (r.state = .barred ∧ l.toNat = 0) →
           t.chans[c].state = r.state ∧ t.chans[c].intent = r.intent) ∧
         (r.state = .shed → above → 1 ≤ s.tier c → r.unreachable = false → r.inFlight = false → r.resend = false →
           t.chans[c].resend = true ∧ t.chans[c].inFlight = true ∧ t.chans[c].offSince = some (s.now + dt) ∧
           waitsAs t (repeatOf c r) .resend) ∧
         (r.state = .shed →
           ¬(above ∧ 1 ≤ s.tier c ∧ r.unreachable = false ∧ r.inFlight = false ∧ r.resend = false) →
           t.chans[c].resend = r.resend ∧ t.chans[c].inFlight = r.inFlight ∧ t.chans[c].offSince = r.offSince))

/-- A panel SWITCH OFF while the load forward queue has room is PASSED and forwarded unchanged, and has the effect that
the channel's state gives it; nothing else changes. -/
def Obligations.SwitchOffTable : Prop :=
  ∀ (s : State) (dt : Nat) (h : Head) (c : Channel), PanelTakes s h → s.load.forward.length < 8 →
    ∃ t, exec (.panelSwitchOff dt h c) s = .next t ∧
      t.panel.answer = .verdict 0x10 ∧ t.load.forward = s.load.forward ++ [forwarded s h c [0x00]] ∧
      t.chans[c] =
        { s.chans[c] with
          state := stateAfterOff s c
          intent := if s.chans[c].state = .released then s.chans[c].intent else some .off
          offSince :=
            if s.chans[c].state ≠ .barred ∧ stateAfterOff s c = .barred then
              some (s.chans[c].offSince.getD (s.now + dt))
            else s.chans[c].offSince } ∧
      t.seq.list = (if s.chans[c].state = .shedding ∨ s.chans[c].state = .shed then s.seq.list.filter (· ≠ c)
        else s.seq.list) ∧
      (∀ d : Channel, t.ctxs[d] = if d = c ∧ s.chans[c].state = .shedding then none else s.ctxs[d]) ∧
      (∀ i : Fin 4, t.overrides[i] =
        if s.chans[c].state = .overridden ∧ s.overrides[i].map Override.ch = some c then none else s.overrides[i]) ∧
      t.panel.notices = noticesAfter s c (stateAfterOff s c) ∧ switchFrameRule s t c

/-- A panel SWITCH ON: HELD for a SHEDDING, SHED or BARRED channel, which a held ON makes SHED and the newest entry;
PASSED and forwarded unchanged in the other states while the load forward queue has room. Intent is ON but for a
RELEASED channel; nothing else changes. A panel SWITCH LEVEL n, n in 1..100, acts as a SWITCH ON does, with the intent
LEVEL n, or ON for 100. A BARRED channel's entry to SHED makes a pick due, which in IDLE is made at once and takes the
newest eligible entry. The shed terminal of a channel that a held ON makes SHED stands (log 13). -/
def Obligations.SwitchOnAndLevelTable : Prop :=
  (∀ (s : State) (dt : Nat) (h : Head) (c : Channel), PanelTakes s h →
     heldIn s.chans[c].state ∨ s.load.forward.length < 8 →
     ∃ t, exec (.panelSwitchOn dt h c) s = .next t ∧ switchToRule s t dt h c [0x01] .on) ∧
  (∀ (s : State) (dt : Nat) (h : Head) (c : Channel) (n : Byte), PanelTakes s h → 1 ≤ n.toNat → n.toNat ≤ 100 →
     heldIn s.chans[c].state ∨ s.load.forward.length < 8 →
     ∃ t, exec (.panelSwitchLevel dt h c n) s = .next t ∧
       switchToRule s t dt h c [0x02, n] (if n.toNat = 100 then .on else .level n.toNat))

/-- A panel SWITCH whose verdict would be PASSED is answered BUSY when the load forward queue is full, and a malformed
one REFUSED but in RELEASED, where it is PASSED unless its action is BOOST; BUSY and REFUSED change no state and
forward nothing. -/
def Obligations.BusyAndMalformed : Prop :=
  ∀ (s : State) (dt : Nat) (h : Head) (c : Channel), PanelTakes s h →
    (8 ≤ s.load.forward.length → Becomes (.panelSwitchOff dt h c) s (verdictOnly s dt 0x13)) ∧
    (8 ≤ s.load.forward.length → heldIn s.chans[c].state = false →
      Becomes (.panelSwitchOn dt h c) s (verdictOnly s dt 0x13) ∧
      ∀ n : Byte, 1 ≤ n.toNat → n.toNat ≤ 100 → Becomes (.panelSwitchLevel dt h c n) s (verdictOnly s dt 0x13)) ∧
    ∀ data : List Byte, dataFits h data → switchMalformed data →
      if s.chans[c].state = .released ∧ data.head? ≠ some 0x03 then
        if s.load.forward.length < 8 then
          Becomes (.switchMalformed dt h c data) s (Part.giveVerdict
            { later s dt with load := { s.load with forward := s.load.forward ++ [forwarded s h c data] } } 0x10)
        else Becomes (.switchMalformed dt h c data) s (verdictOnly s dt 0x13)
      else Becomes (.switchMalformed dt h c data) s (verdictOnly s dt 0x02)

/-- A BOOST is granted, and answered BOOSTED, exactly when every condition of its grant holds: the channel's state,
tier and permission, critical clear, and an entry of the override table; otherwise it is REFUSED and nothing changes.
It is never forwarded. A granted BOOST renews the channel's override entry, or takes the lowest free one, until the
minutes clamped to 1..the boost maximum have passed; intent becomes ON unless it is LEVEL n; a programme is aborted
and the channel leaves the shed list. -/
def Obligations.BoostGranted : Prop :=
  (∀ (s : State) (dt : Nat) (h : Head) (c : Channel) (m : Byte), PanelTakes s h → m ≠ 0 →
     ∃ t, exec (.boost dt h c m) s = .next t ∧
       (boostMeets s c →
         t.panel.answer = .verdict 0x12 ∧ t.chans[c].state = .overridden ∧ t.load.forward = s.load.forward) ∧
       (¬boostMeets s c → t.toPart = verdictOnly s dt 0x02)) ∧
  (∀ (s : State) (dt : Nat) (h : Head) (c : Channel) (m : Byte), IntentsSound s.toPart → PanelTakes s h → m ≠ 0 →
     boostMeets s c →
     ∃ t, exec (.boost dt h c m) s = .next t ∧
       let expiry := s.now + dt + 60000 * max 1 (min m.toNat (s.cfg c).boostMax)
       let holds (i : Fin 4) : Prop := s.overrides[i].map Override.ch = some c
       let first (i : Fin 4) : Prop := holds i ∧ ∀ j : Fin 4, j < i → ¬holds j
       let free (i : Fin 4) : Prop := (∀ j : Fin 4, ¬holds j) ∧ s.overrides[i] = none ∧
         ∀ j : Fin 4, j < i → s.overrides[j] ≠ none
       (∀ i : Fin 4,
         t.overrides[i].map (fun o => (o.ch, o.expiry)) =
           if first i ∨ free i then some (c, expiry) else s.overrides[i].map fun o => (o.ch, o.expiry)) ∧
       t.chans[c].intent = (if (s.chans[c].intent.map Intent.code).getD 0 ≠ 0 ∧ s.chans[c].intent ≠ some .on then
         s.chans[c].intent else some .on) ∧
       t.ctxs[c] = none ∧ t.seq.list = s.seq.list.filter (· ≠ c) ∧ (∀ d : Channel, d ≠ c → t.chans[d] = s.chans[d]))

/-- A granted BOOST needs a switch-on when the channel was SHED or BARRED; SHEDDING with its request sent, its terminal
in flight or the last reported level 0; RESTORING with a SWITCH OFF in flight; or LIVE, or OVERRIDDEN with none
pending, with the last reported level 0. It then queues a SWITCH that carries the intent when the minimum off time has
passed since the off-since time, and otherwise holds it back to that deadline. In every other case it queues nothing,
and a pending switch-on stands. Of several restores and resumes in flight the one queued last decides (log 31). When a
switch-on deadline is reached its SWITCH, carrying the intent, is queued, the entry's pending mark is cleared and the
off-since time becomes absent; nothing else changes. -/
def Obligations.BoostSwitchOn : Prop :=
  (∀ (s : State) (dt : Nat) (h : Head) (c : Channel) (m : Byte), PanelTakes s h → m ≠ 0 → boostMeets s c →
     s.load.engine.length < 8 → ChannelsAgree s.toPart →
     ∃ t, exec (.boost dt h c m) s = .next t ∧
       let body : EngBody := if t.chans[c].intent = some .on then .switchOn c
         else .switchLevel c ((t.chans[c].intent.map Intent.code).getD 0)
       let due := (s.chans[c].offSince.map fun x => x + 1000 * (s.cfg c).minOff).getD 0
       let deadlines (d : Option Nat) : Prop :=
         ∀ i : Fin 4, t.overrides[i].map Override.ch = some c → t.overrides[i].bind Override.deadline = d
       t.load.awaiting = s.load.awaiting ∧
       if darkAtBoost s c = true then
         if due ≤ s.now + dt then
           t.load.engine = s.load.engine ++
             [{ body := body, purpose := .boostOn, tie := s.owner c, attempts := 0, pauseEnd := none,
                leaving := false }] ∧
           t.chans[c].offSince = none ∧ deadlines none
         else t.load.engine = s.load.engine ∧ t.chans[c].offSince = s.chans[c].offSince ∧ deadlines (some due)
       else t.load.engine = s.load.engine ∧ t.chans[c].offSince = s.chans[c].offSince ∧
         deadlines (pendingOf s c)) ∧
  (∀ (s : State) (dt : Nat) (i : Fin 4) (o : Override) (d : Nat), s.overrides[i] = some o → o.deadline = some d →
     d ≤ s.now + dt → 1 ≤ (s.chans[o.ch].intent.map Intent.code).getD 0 → s.load.engine.length < 8 →
     Becomes (.boostSwitchOnDeadline dt i) s
       { later s dt with
         overrides := s.overrides.set i (some { o with deadline := none })
         chans := s.chans.set o.ch { s.chans[o.ch] with offSince := none }
         load := { s.load with engine := s.load.engine ++
           [{ body := commandOf s o.ch, purpose := .boostOn, tie := s.owner o.ch, attempts := 0, pauseEnd := none,
              leaving := false }] } })

/-! ## 04: shed programmes -/

namespace Sys2Proof.Claims

/-- The terminal command of a terminal slot (R87): SWITCH OFF for OPEN, SWITCH LEVEL at the dim level for DIM. -/
def terminalOf (s : State) (c : Channel) (x : StepSlot) : EngBody :=
  if x.kind = .dim then .switchLevel c (s.cfg c).dim else .switchOff c

/-- The shed terminal recorded with it (R58). -/
def terminalRecord (s : State) (c : Channel) (x : StepSlot) : Terminal :=
  if x.kind = .dim then .dim (s.cfg c).dim else .openOut

/-- The step at slot `k` of the programme of `x` has been begun at `at'`: what its kind gives the context. -/
def begunAt (x : Context) (k at' : Nat) : Context :=
  match (slotAt x.prog k).kind with
  | .stopAsk =>
    { x with index := k, deadline := some (at' + 1000 * (slotAt x.prog k).arg), requestSent := true, awaited := .stopreq }
  | .waitIdle | .hold =>
    { x with index := k, deadline := some (at' + 1000 * (slotAt x.prog k).arg), awaited := .none }
  | .openOut | .dim => { x with index := k, deadline := none, requestSent := false, awaited := .terminal }
  | .none | .skipIfIdle | .skipIfRunning => x

/-- The commands the step at slot `k` queues when it is begun (R82, R87). -/
def queuedBy (s : State) (c : Channel) (x : Context) (k : Nat) : List EngEntry :=
  match (slotAt x.prog k).kind with
  | .stopAsk => [queuedAs s (.stopreq c) (.stopreq x.id)]
  | .openOut | .dim => [queuedAs s (terminalOf s c (slotAt x.prog k)) (.terminal x.id)]
  | _ => []

/-- A step of this kind takes time, or is the terminal: beginning it passes over no slot. -/
def stays (s : State) (c : Channel) (k : StepKind) : Bool :=
  match k with
  | .stopAsk | .hold | .openOut | .dim => true
  | .waitIdle => !s.isIdle c
  | .none | .skipIfIdle | .skipIfRunning => false

/-- The slot begun after a slot that beginning passes over (R84, R86): a skip step that holds passes over one more. -/
def nextSlot (s : State) (c : Channel) (p : Programme) (k : Nat) : Nat :=
  match (slotAt p k).kind with
  | .skipIfIdle => if s.isIdle c then k + 2 else k + 1
  | .skipIfRunning => if s.chans[c].status = some .running then k + 2 else k + 1
  | _ => k + 1

/-- The slot at which a programme comes to stand that is begun at slot `k`: the first that takes time or is the
terminal, past skip steps and a WAIT_IDLE that finds the load idle (R81, R84, R86). None where the programme runs out,
which COMMIT refuses (R79). -/
def standsAt (s : State) (c : Channel) (p : Programme) : Nat → Nat → Option Nat
  | 0, _ => none
  | n + 1, k =>
    if (slotAt p k).kind = .none then none
    else if stays s c (slotAt p k).kind then some k
    else standsAt s c p n (nextSlot s c p k)

/-- The state once a REPORT entry has been taken into the channel's last reported fields (R52, R140). -/
def withReport (s : State) (c : Channel) (l i a : Byte) : State :=
  { s with chans := s.chans.set c { s.chans[c] with
      level := some l.toNat
      current := some (if 250 < i.toNat then 255 else i.toNat)
      status := some (if a = 1 then .running else if a = 2 then .stopped else if a = 3 then .fault else .none) } }

/-- The channel's record once its terminal step has been begun (R58). -/
def terminalBegun (s : State) (c : Channel) (x : StepSlot) (at' : Nat) : ChanRec :=
  { s.chans[c] with terminal := some (terminalRecord s c x), offSince := some at', inFlight := true }

end Sys2Proof.Claims

/-- When an override entry's expiry is reached the entry is freed, and its channel is LIVE, with a CHANNEL notice,
outside the shed zone, and SHEDDING as the newest entry, its programme begun, inside it. A channel that enters
SHEDDING, here at the expiry of its override, gets a context with a copy of its active programme: begun at slot 0, past
the skip steps and an idle WAIT_IDLE there, or, while critical is set and the channel is not protected, straight at its
terminal step. The number of the context is
the model's own (log 27). -/
def Obligations.OverrideEndsProgrammeStarts : Prop :=
  (∀ (s : State) (dt : Nat) (i : Fin 4) (o : Override), s.overrides[i] = some o → o.expiry ≤ s.now + dt →
     s.chans[o.ch].state = .overridden →
     ∃ t, exec (.overrideExpiry dt i) s = .next t ∧
       t.overrides = s.overrides.set i none ∧ (∀ d : Channel, d ≠ o.ch → t.chans[d] = s.chans[d]) ∧
       if s.inZone o.ch then
         t.chans[o.ch].state = .shedding ∧ t.seq.list = o.ch :: s.seq.list ∧ t.ctxs[o.ch].isSome = true ∧
         t.panel = s.panel
       else
         t.chans[o.ch] = { s.chans[o.ch] with state := .live } ∧ t.seq = s.seq ∧ t.ctxs = s.ctxs ∧ t.load = s.load ∧
         t.panel = (s.toPart.notify (.channel o.ch .live)).panel) ∧
  (∀ (s : State) (dt : Nat) (i : Fin 4) (o : Override), s.overrides[i] = some o → o.expiry ≤ s.now + dt →
     s.inZone o.ch = true → s.load.engine.length < 8 →
     let c := o.ch
     let prog := (s.cfg c).steps
     let x : Context := { id := s.ctxSerial, prog := prog, index := 0, deadline := none, requestSent := false,
                          awaited := .none }
     ∀ k, (if s.assess.critical ∧ (s.cfg c).protect = false then
         k = terminalIndex prog ∧ (slotAt prog k).kind.isTerminal = true
       else standsAt s c prog 4 0 = some k) →
     ∃ t, exec (.overrideExpiry dt i) s = .next t ∧
       t.ctxs = s.ctxs.set c (some (begunAt x k (s.now + dt))) ∧
       t.load.engine = s.load.engine ++ queuedBy s c x k ∧
       t.chans[c] = { (if (slotAt prog k).kind.isTerminal then terminalBegun s c (slotAt prog k) (s.now + dt)
         else s.chans[c]) with state := .shedding })

/-- When the deadline of a STOP_ASK, WAIT_IDLE or HOLD step is reached the next slot is begun, past a slot that a skip
step whose test holds passes over, and past a WAIT_IDLE that finds the load idle: a STOP_ASK queues its STOPREQ and
starts its deadline, a HOLD or a WAIT_IDLE under load starts its deadline, and a terminal step queues its command,
records the shed terminal, and sets the off-since time and the in flight mark. Nothing else changes. A REPORT ends a
STOP_ASK step with status STOPPED and a WAIT_IDLE step with a current at or below the idle threshold, and begins the
next slot; any other leaves the context as it is. -/
def Obligations.StepsEnd : Prop :=
  (∀ (s : State) (dt : Nat) (c : Channel) (x : Context) (d : Nat) (i : Instr),
     s.ctxs[c] = some x → x.deadline = some d → d ≤ s.now + dt → s.load.engine.length < 8 →
     (i = .stopAskTimeout dt c ∧ (slotAt x.prog x.index).kind = .stopAsk) ∨
       (i = .waitIdleTimeout dt c ∧ (slotAt x.prog x.index).kind = .waitIdle) ∨
       (i = .holdEnd dt c ∧ (slotAt x.prog x.index).kind = .hold) →
     ∀ k, standsAt s c x.prog 4 (x.index + 1) = some k →
     Becomes i s
       { later s dt with
         ctxs := s.ctxs.set c (some (begunAt { x with deadline := none, awaited := .none } k (s.now + dt)))
         load := { s.load with engine := s.load.engine ++ queuedBy s c x k }
         chans := if (slotAt x.prog k).kind.isTerminal then
             s.chans.set c (terminalBegun s c (slotAt x.prog k) (s.now + dt))
           else s.chans }) ∧
  (∀ (s : State) (dt : Nat) (h : Head) (target : BitVec 7) (c : Channel) (l i a : Byte) (x : Context),
     LoadTakes s h → s.owner c = some h.source → l.toNat ≤ 100 → s.chans[c].state = .shedding → s.ctxs[c] = some x →
     ∃ t, exec (.report dt h target [byteOf c.val, l, i, a, 0xFF, 0, 0]) s = .next t ∧
       let here := (slotAt x.prog x.index).kind
       let current := if 250 < i.toNat then 255 else i.toNat
       if here = .stopAsk ∧ a = 2 ∨ here = .waitIdle ∧ current ≤ (s.cfg c).idle then
         ∀ k, standsAt (withReport s c l i a) c x.prog 4 (x.index + 1) = some k →
           t.ctxs[c] = some (begunAt { x with deadline := none, awaited := .none } k (s.now + dt))
       else t.ctxs[c] = some x)

/-- The outcome of a programme's terminal command, DONE, REFUSED or no answer after the last attempt, ends the
programme of the context that awaits it: the context is deleted and the channel is SHED, confirmed on DONE alone, with
no terminal in flight and still on the list. The frame leaves the queue. The outcome of a STOPREQ: REFUSED ends the
STOP_ASK step of the context that awaits it, and the next slot to stand at is begun; DONE and no answer leave the step
waiting for its report or its deadline. -/
def Obligations.ProgrammeOutcomes : Prop :=
  (∀ (s : State) (dt : Nat) (ans : List Byte) (e : EngEntry) (rest : List EngEntry) (n : Nat) (c : Channel) (x : Context),
     s.load.sending = some .engine → s.load.engine = e :: rest → (∀ y ∈ rest, y.leaving = false) →
     e.purpose = .terminal n → e.body.channel = some c → s.ctxs[c] = some x → x.id = n → x.awaited = .terminal →
     s.chans[c].state = .shedding → s.inZone c = true →
     (verdictOf ans).isSome ∨ 2 ≤ e.attempts →
     ∃ t, exec (.terminalOutcome dt ans) s = .next t ∧
       t.load.sending = none ∧ rest.Sublist t.load.engine ∧
       t.ctxs[c] = none ∧ t.chans[c].state = .shed ∧ t.chans[c].inFlight = false ∧
       t.chans[c].confirmed = decide (ans.head? = some 0x01) ∧ (c ∈ s.seq.list → c ∈ t.seq.list) ∧
       t.chans[c].intent = s.chans[c].intent) ∧
  (∀ (s : State) (dt : Nat) (ans : List Byte) (e : EngEntry) (rest : List EngEntry) (n : Nat) (c : Channel) (x : Context),
     s.load.sending = some .engine → s.load.engine = e :: rest → (∀ y ∈ rest, y.leaving = false) →
     e.purpose = .stopreq n → e.body.channel = some c → s.ctxs[c] = some x → x.id = n → x.awaited = .stopreq →
     (verdictOf ans).isSome ∨ 2 ≤ e.attempts →
     ∃ t, exec (.stopreqOutcome dt ans) s = .next t ∧
       t.load.sending = none ∧ rest.Sublist t.load.engine ∧
       if ans.head? = some 0x02 then
         ∀ k, standsAt s c x.prog 4 (x.index + 1) = some k →
           t.ctxs[c] = some (begunAt { x with deadline := none, awaited := .none } k (s.now + dt))
       else t.ctxs[c] = some { x with awaited := .none })

/-! ## 05: the shed list and restore -/

namespace Sys2Proof.Claims

/-- A pick is made at this command: the spacing timer expires, or a ready time is reached in IDLE (R104). -/
def picksAt (s : State) (dt : Nat) (i : Instr) : Prop :=
  (i = .spacingTimerExpiry dt ∧ s.seq.state = .spacing ∧ s.seq.spacingAt.isSome ∧ s.seq.spacingAt.getD 0 ≤ s.now + dt) ∨
  (i = .readyTimeReached dt ∧ s.seq.state = .idle ∧
    ∃ c ∈ s.seq.list, s.chans[c].state = .shed ∧ s.chans[c].offSince.isSome ∧
      s.chans[c].offSince.getD 0 + 1000 * (s.cfg c).minOff ≤ s.now + dt)

end Sys2Proof.Claims

/-- A pick takes the newest eligible entry: it leaves the list, its restoring command, which carries its intent, is
queued, it is RESTORING, and the Sequencer is IN_FLIGHT with it; an entry of intent OFF and tier 0 becomes LIVE unsent
instead, unconfirmed, and spacing starts. With nothing eligible the Sequencer is IDLE and the list stays. Which ready
times make a pick due at READY_TIME_REACHED is the model's choice (log 23). -/
def Obligations.PickNewestEligible : Prop :=
  ∀ (s : State) (dt : Nat) (i : Instr), picksAt s dt i →
    let left := if s.seq.state = .spacing then none else s.seq.spacingAt
    ∃ t, exec i s = .next t ∧
      picksFrom { s with toPart := { later s dt with seq := { s.seq with state := .idle, spacingAt := left } } } t

/-- The outcome of a restore or of a resume ends RESTORING: confirmed on DONE alone; LIVE outside the shed zone, and
SHEDDING at once inside it. Every outcome of a restore starts the spacing timer with the active restore spacing,
whatever became of the channel meanwhile: one that is no longer RESTORING keeps its state. -/
def Obligations.RestoringEnds : Prop :=
  (∀ (s : State) (dt : Nat) (ans : List Byte) (e : EngEntry) (rest : List EngEntry) (c : Channel) (i : Instr),
     s.load.sending = some .engine → s.load.engine = e :: rest → (∀ y ∈ rest, y.leaving = false) →
     (e.purpose = .restore ∧ i = .restoreOutcome dt ans) ∨ (e.purpose = .resume ∧ i = .resumeOutcome dt ans) →
     e.body.channel = some c → s.chans[c].state = .restoring → (verdictOf ans).isSome ∨ 2 ≤ e.attempts →
     ∃ t, exec i s = .next t ∧
       t.load.sending = none ∧ rest.Sublist t.load.engine ∧
       t.chans[c].confirmed = decide (ans.head? = some 0x01) ∧ t.chans[c].intent = s.chans[c].intent ∧
       t.chans[c].state = (if s.inZone c then .shedding else .live) ∧ (s.inZone c = true → c ∈ t.seq.list)) ∧
  ∀ (s : State) (dt : Nat) (ans : List Byte) (e : EngEntry) (rest : List EngEntry) (c : Channel),
    s.load.sending = some .engine → s.load.engine = e :: rest → e.purpose = .restore → e.body.channel = some c →
    (verdictOf ans).isSome ∨ 2 ≤ e.attempts →
    ∃ t, exec (.restoreOutcome dt ans) s = .next t ∧ t.load.sending = none ∧
      t.seq.state = .spacing ∧ t.seq.restoring = none ∧
      t.seq.spacingAt = some (s.now + dt + s.settings.restoreSpacing) ∧
      (s.chans[c].state ≠ .restoring → t.chans[c].state = s.chans[c].state ∧ t.seq.list = s.seq.list)

/-- The outcome of a boost switch-on sets the confirmed mark on DONE and clears it otherwise, no answer after the last
attempt included, while the channel is OVERRIDDEN; that of a repeated terminal does so while it is SHED, and no
terminal is then in flight unless a later one stands, a group opening of the channel among them (log 39). Neither
changes the channel's state. An outcome that reaches a channel in another state than the one its command was queued for
changes neither its state nor its confirmed mark, but where its third frame unanswered makes its module ABSENT, which
clears that mark. An outcome acts by the channel's state (log 31). -/
def Obligations.RepeatAndStaleOutcomes : Prop :=
  (∀ (s : State) (dt : Nat) (ans : List Byte) (e : EngEntry) (rest : List EngEntry) (c : Channel) (i : Instr),
     s.load.sending = some .engine → s.load.engine = e :: rest → (∀ y ∈ rest, y.leaving = false) →
     (e.purpose = .boostOn ∧ i = .boostSwitchOnOutcome dt ans) ∨ (e.purpose = .resend ∧ i = .resendOutcome dt ans) →
     e.body.channel = some c → (verdictOf ans).isSome ∨ 2 ≤ e.attempts →
     ∃ t, exec i s = .next t ∧
       t.load.sending = none ∧ rest.Sublist t.load.engine ∧ t.chans[c].state = s.chans[c].state ∧
       (s.chans[c].state = (if e.purpose = .boostOn then .overridden else .shed) →
         t.chans[c].confirmed = decide (ans.head? = some 0x01)) ∧
       (e.purpose = .resend → t.chans[c].inFlight = true → t.terminalStands c = true)) ∧
  (∀ (s : State) (dt : Nat) (ans : List Byte) (e : EngEntry) (rest : List EngEntry) (c : Channel) (i : Instr),
     s.load.sending = some .engine → s.load.engine = e :: rest → e.body.channel = some c →
     (verdictOf ans).isSome ∨ 2 ≤ e.attempts → s.ctxs[c] = none → s.chans[c].state ≠ .shed →
     (e.purpose.ofTerminal = true ∧ i = .terminalOutcome dt ans) ∨ (e.purpose = .resend ∧ i = .resendOutcome dt ans) ∨
       (e.purpose = .restore ∧ i = .restoreOutcome dt ans ∧ s.chans[c].state ≠ .restoring) ∨
       (e.purpose = .resume ∧ i = .resumeOutcome dt ans ∧ s.chans[c].state ≠ .restoring) ∨
       (e.purpose = .boostOn ∧ i = .boostSwitchOnOutcome dt ans ∧ s.chans[c].state ≠ .overridden) →
     ∃ t, exec i s = .next t ∧ t.chans[c].state = s.chans[c].state ∧
       ((verdictOf ans).isSome ∨ (∀ n r, e.tie = some n → s.record n = some r → r.unanswered < 2) →
         t.chans[c].confirmed = s.chans[c].confirmed) ∧
       (t.chans[c].confirmed = s.chans[c].confirmed ∨ t.chans[c].confirmed = false))

/-! ## 06: roster, presence, census, the group opening -/

namespace Sys2Proof.Claims

/-- A listed module as a hearing at `now'` leaves it (R119). -/
def heardAt (now' : Nat) (r : PresenceRec) : PresenceRec :=
  { r with state := .present, unanswered := 0, silenceAt := some (now' + 5000) }

/-- The record of this node is ABSENT (R122). -/
def awayAt (s : State) (n : NodeId) : Prop := (s.record n).map PresenceRec.state = some .absent

/-- A frame that the load segment carries passes to the panel segment by its target (R154). -/
def passesOver (s : State) (f : Frame) : Bool :=
  match targetClass f.target with
  | .node n => !(n == s.nodeId || s.mgmt.active.rosterNodes.contains n)
  | _ => true

/-- The IDs that are heard in the answer to another node's frame: those of a roll that answers a CENSUS or an OPENSET
(R119, R143, R145). -/
def heardIn (a : LoadArrival) : List NodeId :=
  if a.frame.kind = kindCensus ∨ a.frame.kind = kindOpenset then rollIds a.roll else []

/-- The panel forward queue after a frame of the load segment, which enters while there is room (R154). -/
def passedOn (s : State) (f : Frame) : List FwdEntry :=
  if passesOver s f ∧ s.panel.forward.length < 8 then
    s.panel.forward ++ [{ frame := f, tie := none, attempts := 0, pauseEnd := none }]
  else s.panel.forward

end Sys2Proof.Claims

/-- The band lookup takes the first entry, in index order, whose ending is at or above the value and above every
earlier ending, and gives its depth; it gives 0 when no entry is such. A channel belongs to the first roster entry, in
index order, whose ending is at or above it and above every earlier ending; it has no owning module when no entry is
such. -/
def Obligations.EndingBoundaries : Prop :=
  (∀ (t : Tables) (x : Nat),
     let covers (i : Fin 8) : Prop := x ≤ t.bands[i].ending ∧ ∀ j : Fin 8, j < i → t.bands[j].ending < t.bands[i].ending
     (∀ i, covers i → (∀ j, j < i → ¬covers j) → t.band x = t.bands[i].depth) ∧ ((∀ i, ¬covers i) → t.band x = 0)) ∧
  (∀ (t : Tables) (c : Channel),
     let covers (i : Fin 12) : Prop :=
       c.val ≤ t.roster[i].ending ∧ ∀ j : Fin 12, j < i → t.roster[j].ending < t.roster[i].ending
     (∀ i, covers i → (∀ j, j < i → ¬covers j) → t.owner c = some t.roster[i].node) ∧
       ((∀ i, ¬covers i) → t.owner c = none))

/-- A frame on the load segment that is neither SAMPLE nor REPORT is a hearing of its source, which becomes PRESENT
with count 0 and its silence timer restarted, with a MODULE notice from SILENT; and it passes to the panel segment
unchanged by its target while the panel forward queue has room. No channel changes. A hearing of an ABSENT module
makes it PRESENT with a MODULE notice; its channels lose the unreachable mark, and each SHED one of tier 1 or more
with a shed terminal and none in flight has its terminal queued again, off-since now. The hearing comes before the
forwarding (log 7). In the roll that answers a CENSUS or an OPENSET of another node each ID is a hearing as well, and
one of no listed module, monitor or own node sets the unlisted-node mark; neither the part's own census nor its opening
takes anything from that roll. The roll's bytes come with the frame (log 40). -/
def Obligations.LoadSegmentHearings : Prop :=
  (∀ (s : State) (dt : Nat) (a : LoadArrival), LoadTakes s a.frame.head → a.frame.fits → a.frame.kind ≠ kindSample →
     a.frame.kind ≠ kindReport → heardIn a = [] → ¬awayAt s a.frame.head.source →
     ∃ t, exec (.loadFrameArrival dt a) s = .next t ∧
       t.record a.frame.head.source = (s.record a.frame.head.source).map (heardAt (s.now + dt)) ∧
       (∀ n, n ≠ a.frame.head.source → t.record n = s.record n) ∧
       t.panel.notices = (if (s.record a.frame.head.source).map PresenceRec.state = some .silent then
         (s.toPart.notify (.module a.frame.head.source .present)).panel.notices else s.panel.notices) ∧
       t.panel.forward = passedOn s a.frame ∧ t.load.port.position = .frameEnd ∧
       t.chans = s.chans ∧ t.load.engine = s.load.engine ∧ t.load.forward = s.load.forward ∧ t.reserve = s.reserve ∧
       t.assess = s.assess ∧ t.alerts = s.alerts ∧ t.mgmt = s.mgmt) ∧
  (∀ (s : State) (dt : Nat) (a : LoadArrival) (r : PresenceRec), LoadTakes s a.frame.head → a.frame.fits →
     a.frame.kind ≠ kindSample → a.frame.kind ≠ kindReport → heardIn a = [] →
     s.record a.frame.head.source = some r → r.state = .absent →
     ∃ t, exec (.loadFrameArrival dt a) s = .next t ∧
       t.record a.frame.head.source = some (heardAt (s.now + dt) r) ∧
       t.alerts.moduleAbsent = t.roster.presence.any (fun x => x.state == .absent) ∧
       (∀ n, n ≠ a.frame.head.source → t.record n = s.record n) ∧
       t.panel.notices = (s.toPart.notify (.module a.frame.head.source .present)).panel.notices ∧
       t.panel.forward = passedOn s a.frame ∧
       t.load.forward = s.load.forward ∧ t.reserve = s.reserve ∧ t.assess = s.assess ∧ t.mgmt = s.mgmt ∧
       ∀ c : Channel,
         if s.owner c = some a.frame.head.source then
           t.chans[c].unreachable = false ∧ t.chans[c].state = s.chans[c].state ∧
           if s.chans[c].state = .shed ∧ 1 ≤ s.tier c ∧ s.chans[c].inFlight = false ∧ s.chans[c].terminal.isSome then
             t.chans[c].inFlight = true ∧ t.chans[c].resend = true ∧ t.chans[c].offSince = some (s.now + dt) ∧
             waitsAs t (repeatOf c s.chans[c]) .resend
           else t.chans[c].resend = s.chans[c].resend ∧ t.chans[c].offSince = s.chans[c].offSince
         else t.chans[c] = s.chans[c]) ∧
  ∀ (s : State) (dt : Nat) (a : LoadArrival), LoadTakes s a.frame.head → a.frame.fits → a.frame.kind ≠ kindSample →
     a.frame.kind ≠ kindReport →
     let heard (n : NodeId) : Prop := n = a.frame.head.source ∨ n ∈ heardIn a
     ∃ t, exec (.loadFrameArrival dt a) s = .next t ∧
       (∀ n, (heard n → t.record n = (s.record n).map (heardAt (s.now + dt))) ∧
         (¬heard n → t.record n = s.record n)) ∧
       t.roster.unlisted = (s.roster.unlisted || (heardIn a).any fun n =>
         !(s.mgmt.active.rosterNodes.contains n) && n.toNat != s.settings.monitorNode && n != s.nodeId) ∧
       t.roster.census = s.roster.census ∧ t.roster.round = s.roster.round ∧ t.roster.answered = s.roster.answered ∧
       t.roster.opening = s.roster.opening ∧ t.roster.openingSet = s.roster.openingSet ∧ t.ctxs = s.ctxs ∧
       t.panel.forward = passedOn s a.frame ∧ t.load.port.position = .frameEnd ∧
       ((∀ n, heard n → (s.record n).map PresenceRec.state ≠ some .silent ∧ ¬awayAt s n) →
         t.panel.notices = s.panel.notices) ∧
       (∀ n r, heard n → s.record n = some r → r.state = .silent ∨ r.state = .absent →
         s.panel.notices.length < 4 → s.panel.notices.length < t.panel.notices.length) ∧
       ∀ c : Channel, t.chans[c].state = s.chans[c].state ∧
         ((∀ n, s.owner c = some n → heard n → ¬awayAt s n) → t.chans[c] = s.chans[c]) ∧
         ∀ n, s.owner c = some n → heard n → awayAt s n → t.chans[c].unreachable = false

/-- The silence timer of a PRESENT module makes it SILENT with a MODULE notice and requests a census: an IDLE census
with room in the engine queue queues its first round, but stays PENDING, with no slot, while the Load Port is in FAULT;
a SILENT port grants the slot as an ACTIVE one does (log 21). -/
def Obligations.SilenceTimerExpiry : Prop :=
  ∀ (s : State) (dt : Nat) (n : NodeId) (r : PresenceRec) (d : Nat), s.record n = some r → r.state = .present →
    r.silenceAt = some d → d ≤ s.now + dt →
    ∃ t, exec (.silenceTimerExpiry dt n) s = .next t ∧
      t.record n = some { r with state := .silent, silenceAt := none } ∧ (∀ m, m ≠ n → t.record m = s.record m) ∧
      t.panel = (s.toPart.notify (.module n .silent)).panel ∧ t.chans = s.chans ∧ t.assess = s.assess ∧
      t.reserve = s.reserve ∧ t.alerts = s.alerts ∧
      if s.roster.census = .idle then
        if s.load.port.state = .fault then t.roster.census = .pending ∧ t.load = s.load
        else if s.load.engine.length < 8 then
          t.roster.census = .running ∧ t.roster.round = 1 ∧ t.roster.answered = [] ∧ t.roster.unlisted = false ∧
          t.load.engine = s.load.engine ++ [queuedAs s (.census []) .census]
        else t.roster.census = .pending ∧ t.load = { s.load with awaitCensus := true }
      else t.roster.census = s.roster.census ∧ t.roster.round = s.roster.round ∧ t.load = s.load

namespace Sys2Proof.Claims

/-- The head of the load forward queue has left it, its attempt over, and nothing else has happened (R155, R160). -/
def forwardGone (s : State) (dt : Nat) : Part :=
  { later s dt with load := { s.load with
      sending := none, port := { s.load.port with position := .frameEnd }, forward := s.load.forward.tail } }

/-- The attempts of the forwarded frame `e` end with no answer (R160, R162). -/
def forwardUnanswered (e : FwdEntry) (ans : List Byte) : Prop :=
  2 ≤ e.attempts ∧
    ((answerKind e.frame.kind = .verdict ∧ verdictOf ans = none) ∨ (answerKind e.frame.kind = .roll ∧ rollIds ans = []))

end Sys2Proof.Claims

/-- The outcome of a forwarded frame goes to the Roster Unit alone, and the frame leaves its queue. A verdict is a hearing
of the listed module it is tied to; no answer after the last attempt, of a frame that expects a VERDICT or a ROLL,
counts one more, and at 3 in a row the module is ABSENT, with its channels unreachable and unconfirmed, a MODULE notice
and MODULE_ABSENT. A frame tied to no listed module leaves nothing else (log 41 for the tie). Each ID of the roll of a
forwarded CENSUS or OPENSET is a hearing, and one of no listed module, monitor or own node sets the unlisted-node mark;
the part's own census and opening take nothing from it. -/
def Obligations.ForwardedOutcome : Prop :=
  (∀ (s : State) (dt : Nat) (ans : List Byte) (e : FwdEntry) (rest : List FwdEntry) (n : NodeId) (r : PresenceRec),
     s.load.sending = some .forward → s.load.forward = e :: rest → e.tie = some n → s.record n = some r →
     r.state ≠ .absent →
     (answerKind e.frame.kind = .verdict ∧ (verdictOf ans).isSome) ∨ forwardUnanswered e ans →
     ∃ t, exec (.forwardedOutcome dt ans) s = .next t ∧
       t.load.sending = none ∧ t.load.forward = rest ∧ t.load.engine = s.load.engine ∧ t.assess = s.assess ∧
       (∀ c : Channel, t.chans[c].state = s.chans[c].state) ∧
       if answerKind e.frame.kind = .verdict ∧ (verdictOf ans).isSome then
         t.record n = some (heardAt (s.now + dt) r) ∧ t.chans = s.chans
       else if r.unanswered < 2 then t.record n = some { r with unanswered := r.unanswered + 1 } ∧ t.chans = s.chans
       else
         t.record n = some { r with state := .absent, unanswered := 3, silenceAt := none } ∧
         t.panel = (s.toPart.notify (.module n .absent)).panel ∧ t.alerts.moduleAbsent = true ∧
         ∀ c : Channel, if s.owner c = some n then t.chans[c].unreachable = true ∧ t.chans[c].confirmed = false
           else t.chans[c] = s.chans[c]) ∧
  (∀ (s : State) (dt : Nat) (ans : List Byte) (e : FwdEntry) (rest : List FwdEntry),
     s.load.sending = some .forward → s.load.forward = e :: rest → (∀ n, e.tie = some n → s.record n = none) →
     (answerKind e.frame.kind = .verdict ∧ (verdictOf ans).isSome) ∨ forwardUnanswered e ans →
     Becomes (.forwardedOutcome dt ans) s (forwardGone s dt)) ∧
  ∀ (s : State) (dt : Nat) (ans : List Byte) (e : FwdEntry) (rest : List FwdEntry),
    s.load.sending = some .forward → s.load.forward = e :: rest → answerKind e.frame.kind = .roll → rollIds ans ≠ [] →
    ∃ t, exec (.forwardedOutcome dt ans) s = .next t ∧
      t.load.sending = none ∧ t.load.forward = rest ∧
      (∀ n, t.record n = if n ∈ rollIds ans then (s.record n).map (heardAt (s.now + dt)) else s.record n) ∧
      t.roster = { s.roster with
        presence := t.roster.presence
        unlisted := s.roster.unlisted || (rollIds ans).any fun n =>
          !(s.mgmt.active.rosterNodes.contains n) && n.toNat != s.settings.monitorNode && n != s.nodeId } ∧
      t.ctxs = s.ctxs ∧ t.overrides = s.overrides ∧ t.seq = s.seq ∧ t.reserve = s.reserve ∧ t.assess = s.assess ∧
      t.mgmt = s.mgmt ∧
      ((∀ n ∈ rollIds ans, (s.record n).map PresenceRec.state ≠ some .silent ∧ ¬awayAt s n) →
        t.panel = s.panel ∧ t.load.engine = s.load.engine ∧ t.alerts = s.alerts) ∧
      (∀ n r, n ∈ rollIds ans → s.record n = some r → r.state = .silent ∨ r.state = .absent →
        s.panel.notices.length < 4 → s.panel.notices.length < t.panel.notices.length) ∧
      ∀ c : Channel, t.chans[c].state = s.chans[c].state ∧
        ((∀ n, s.owner c = some n → n ∈ rollIds ans → ¬awayAt s n) → t.chans[c] = s.chans[c]) ∧
        ∀ n, s.owner c = some n → n ∈ rollIds ans → awayAt s n → t.chans[c].unreachable = false

/-- A census round that brings a roll before round 4: every ID joins the answered set, a listed one is heard, an ID of
no listed module, monitor or own node sets the unlisted-node mark, and the next round, carrying the answered set, is
queued, or awaits its slot behind an OPENSET. A census ends after a round with no answer, or after round 4: each
listed module that is EXPECTED or SILENT and answered no round becomes ABSENT with count 0; the others keep their
state; a module left SILENT has a new census under way at once, which in FAULT only stands PENDING (log 21). The group
opening ends: each member whose recorded owner is in the roll is OPENED, and so SHED and confirmed; each other begins
its terminal step again with a SWITCH OFF of its own. It does so for whichever opening the member's context awaits (log
44). A further set takes the opening's place. -/
def Obligations.CensusAndOpeningEnd : Prop :=
  (∀ (s : State) (dt : Nat) (ans : List Byte) (e : EngEntry) (rest : List EngEntry), SlotsSound s.toPart →
     s.load.sending = some .engine → s.load.engine = e :: rest → e.purpose = .census →
     rollIds ans ≠ [] → s.roster.round < 4 → rest.length < 8 →
     ∃ t, exec (.censusRoundEnd dt ans) s = .next t ∧ t.load.sending = none ∧
       (∀ n, n ∈ t.roster.answered ↔ n ∈ s.roster.answered ∨ n ∈ rollIds ans) ∧
       (∀ n, t.record n = if n ∈ rollIds ans then (s.record n).map (heardAt (s.now + dt)) else s.record n) ∧
       t.roster.unlisted = (s.roster.unlisted || (rollIds ans).any fun n =>
         !(s.mgmt.active.rosterNodes.contains n) && n.toNat != s.settings.monitorNode && n != s.nodeId) ∧
       t.roster.census = .running ∧
       ((t.roster.round = s.roster.round + 1 ∧ waitsAs t (.census t.roster.answered) .census) ∨
         (s.load.awaitOpenset = true ∧ t.roster.round = s.roster.round ∧ t.load.awaitCensus = true))) ∧
  (∀ (s : State) (dt : Nat) (ans : List Byte) (e : EngEntry) (rest : List EngEntry), SlotsSound s.toPart →
     s.load.sending = some .engine → s.load.engine = e :: rest → e.purpose = .census → rest.length < 8 →
     (rollIds ans = [] ∧ 2 ≤ e.attempts) ∨ (rollIds ans ≠ [] ∧ s.roster.round = 4) →
     ∃ t, exec (.censusRoundEnd dt ans) s = .next t ∧ t.load.sending = none ∧
       (∀ n, n ∈ s.mgmt.active.rosterNodes →
         t.record n = (s.record n).map fun r =>
           if n ∈ rollIds ans then heardAt (s.now + dt) r
           else if (r.state = .expected ∨ r.state = .silent) ∧ n ∉ s.roster.answered then
             { r with state := .absent, unanswered := 0, silenceAt := none }
           else r) ∧
       if t.roster.presence.any fun r => r.state == .silent then
         (t.roster.census = .running ∧ t.roster.round = 1 ∧ t.roster.answered = [] ∧ t.roster.unlisted = false ∧
           waitsAs t (.census []) .census) ∨
         (t.roster.census = .pending ∧ t.roster.round = 0 ∧
           if s.load.port.state = .fault then t.load.awaitCensus = false
           else s.load.awaitOpenset = true ∧ t.load.awaitCensus = true)
       else t.roster.census = .idle ∧ t.roster.round = 0) ∧
  (∀ (s : State) (dt : Nat) (ans : List Byte) (e : EngEntry) (rest : List EngEntry) (c : Channel) (x : Context),
    SlotsSound s.toPart → s.load.sending = some .engine → s.load.engine = e :: rest →
    e.purpose = .openset → rollIds ans ≠ [] ∨ 2 ≤ e.attempts → c ∈ s.roster.openingSet → s.inZone c = true →
    s.ctxs[c] = some x → x.awaited = .opening → (slotAt x.prog x.index).kind = .openOut →
    s.chans[c].state = .shedding →
    ∃ t, exec (.opensetEnd dt ans) s = .next t ∧ t.load.sending = none ∧
      (if (s.memberOwner c).any (fun n => (rollIds ans).contains n) then
        t.chans[c].state = .shed ∧ t.chans[c].confirmed = true ∧ t.chans[c].inFlight = false ∧ t.ctxs[c] = none
      else
        t.chans[c].state = .shedding ∧ t.chans[c].inFlight = true ∧ t.chans[c].offSince = some (s.now + dt) ∧
        t.ctxs[c] = some { x with deadline := none, requestSent := false, awaited := .terminal } ∧
        waitsAs t (.switchOff c) (.terminal x.id)) ∧
      (if s.roster.further = [] then t.roster.opening = .idle ∧ t.roster.openingSet = []
      else t.roster.openingSet = s.roster.further ∧ t.roster.further = [] ∧
        (t.roster.opening = .sent ∨ t.roster.opening = .pending)))

/-! ## 07 and 08: framing, the ports, the traffic path -/

namespace Sys2Proof.Claims

/-- A frame has ended at the port with nothing to answer (R134, R135). -/
def frameDropped (s : State) (dt : Nat) (p : PortId) : Part :=
  match p with
  | .panel => { later s dt with panel := { s.panel with
      answer := .none, port := { s.panel.port with position := .frameEnd } } }
  | .load => { later s dt with load := { s.load with port := { s.load.port with position := .frameEnd } } }

/-- The port's core has become this, and nothing else happens. -/
def portBecomes (s : State) (dt : Nat) (p : PortId) (k : PortCore) : Part := (later s dt).modCore p fun _ => k

/-- SILENT, FAULT and ACTIVE, each with the receive position waiting for a start mark. -/
def silentCore : PortCore := { state := .silent, startUp := false, position := .waiting }
def faultCore : PortCore := { state := .fault, startUp := false, position := .waiting }
def activeCore : PortCore := { state := .active, startUp := false, position := .waiting }

/-- The port neither sends a frame of its own nor gives an answer. -/
def portQuiet (s : State) (p : PortId) : Prop :=
  match p with
  | .panel => s.panel.sending = none ∧ ¬(s.panel.port.position = .answerField ∧ s.panel.answer ≠ .none)
  | .load => s.load.sending = none

/-- The first retry pauses of an entry whose attempt has just ended unanswered (R160). -/
def pausedEng (now' : Nat) (e : EngEntry) : EngEntry := { e with attempts := e.attempts + 1, pauseEnd := some (now' + 100) }
def pausedFwd (now' : Nat) (e : FwdEntry) : FwdEntry := { e with attempts := e.attempts + 1, pauseEnd := some (now' + 100) }

/-- An entry is eligible: it is not in its retry pause (R159). -/
def rested (now' : Nat) (p : Option Nat) : Bool := decide (p.getD 0 ≤ now')

/-- A port is free to send a start mark: it is ACTIVE with no attempt on the bus, and receives no winner of an
arbitration that it lost (R137, R159). -/
def portFree (s : State) : PortId → Prop
  | .load => s.load.port.state = .active ∧ s.load.sending = none ∧ s.load.port.position ≠ .headerData
  | .panel => s.panel.port.state = .active ∧ s.panel.sending = none ∧ s.panel.port.position ≠ .headerData

/-- The command that hands over the outcome of an engine frame of this purpose (R160). -/
def outcomeOf (p : Purpose) (dt : Nat) (ans : List Byte) : Instr :=
  match p with
  | .terminal _ => .terminalOutcome dt ans
  | .stopreq _ => .stopreqOutcome dt ans
  | .restore => .restoreOutcome dt ans
  | .resume => .resumeOutcome dt ans
  | .boostOn => .boostSwitchOnOutcome dt ans
  | .resend => .resendOutcome dt ans
  | .census => .censusRoundEnd dt ans
  | .openset => .opensetEnd dt ans

/-- The event does what this outcome does, and leaves the Load Port SILENT. -/
def endsSilent (s : State) (i outcome : Instr) : Prop :=
  ∃ u, exec outcome s = .next u ∧ Becomes i s { u.toPart with load := { u.load with port := silentCore } }

/-- The event cuts off the attempt that is on the bus at this port, or the answer the Panel Port is giving, and leaves
the port SILENT. After a first or second attempt the frame stays at its head in a retry pause. At a third the Load Port
hands over no answer, and a frame whose answer nobody collects is discarded (R146, R160, R161, R163). -/
def cutsOff (s : State) (dt : Nat) (i : Instr) : PortId → Prop
  | .load =>
    (∀ (e : EngEntry) (rest : List EngEntry), s.load.sending = some .engine → s.load.engine = e :: rest →
      (e.attempts < 2 → Becomes i s { later s dt with
        load := { s.load with port := silentCore, sending := none, engine := pausedEng (s.now + dt) e :: rest } }) ∧
      (2 ≤ e.attempts → (e.purpose = .census ∨ e.purpose = .openset → e.tie = none) →
        endsSilent s i (outcomeOf e.purpose dt []))) ∧
    ∀ (e : FwdEntry) (rest : List FwdEntry), s.load.sending = some .forward → s.load.forward = e :: rest →
      (e.attempts < 2 → Becomes i s { later s dt with
        load := { s.load with port := silentCore, sending := none, forward := pausedFwd (s.now + dt) e :: rest } }) ∧
      (2 ≤ e.attempts →
        if answerKind e.frame.kind = .verdict ∨ answerKind e.frame.kind = .roll then
          endsSilent s i (.forwardedOutcome dt [])
        else Becomes i s { later s dt with
          load := { s.load with port := silentCore, sending := none, forward := rest } })
  | .panel =>
    (∀ (e : NoticeEntry) (rest : List NoticeEntry), s.panel.sending = some .notice → s.panel.notices = e :: rest →
      Becomes i s { later s dt with panel := { s.panel with
        port := silentCore
        sending := none
        notices := if e.attempts < 2 then
            { e with attempts := e.attempts + 1, pauseEnd := some (s.now + dt + 100) } :: rest
          else rest } }) ∧
    (∀ (e : FwdEntry) (rest : List FwdEntry), s.panel.sending = some .forward → s.panel.forward = e :: rest →
      Becomes i s { later s dt with panel := { s.panel with
        port := silentCore
        sending := none
        forward := if e.attempts < 2 then pausedFwd (s.now + dt) e :: rest else rest } }) ∧
    (s.panel.sending = none → s.panel.port.position = .answerField → s.panel.answer ≠ .none →
      Becomes i s { later s dt with panel := { s.panel with port := silentCore, answer := .none } })

/-- A channel for which no shedding command goes out: tier 0 or RELEASED (R72). -/
def outOfReach (s : State) (c : Channel) : Prop := s.tier c = 0 ∨ s.chans[c].state = .released

/-- The frame whose arrival a command is, with the port it arrives at (R138, R145). -/
def arrivesAt (s : State) : Instr → Option (PortId × Frame)
  | .sample _ h target data => some (.load, { head := h, kind := kindSample, target := target, data := data })
  | .report _ h target data => some (.load, { head := h, kind := kindReport, target := target, data := data })
  | .loadFrameArrival _ a => some (.load, a.frame)
  | .panelFrameArrival _ f => some (.panel, f)
  | .panelSwitchOff _ h c => some (.panel, switchTo h c [0x00])
  | .panelSwitchOn _ h c => some (.panel, switchTo h c [0x01])
  | .panelSwitchLevel _ h c n => some (.panel, switchTo h c [0x02, n])
  | .boost _ h c m => some (.panel, switchTo h c [0x03, m])
  | .switchMalformed _ h c data => some (.panel, switchTo h c data)
  | .load _ h args => some (.panel, s.mgmtFrame h (0x01 :: args))
  | .commit _ h args => some (.panel, s.mgmtFrame h (0x02 :: args))
  | .discard _ h args => some (.panel, s.mgmtFrame h (0x03 :: args))
  | .read _ h args => some (.panel, s.mgmtFrame h (0x04 :: args))
  | .status _ h args => some (.panel, s.mgmtFrame h (0x05 :: args))
  | .channel _ h args => some (.panel, s.mgmtFrame h (0x06 :: args))
  | .limits _ h args => some (.panel, s.mgmtFrame h (0x07 :: args))
  | .setReserve _ h args => some (.panel, s.mgmtFrame h (0x08 :: args))
  | .census _ h args => some (.panel, s.mgmtFrame h (0x09 :: args))
  | .release _ h args => some (.panel, s.mgmtFrame h (0x0A :: args))
  | .retain _ h args => some (.panel, s.mgmtFrame h (0x0B :: args))
  | .restart _ h args => some (.panel, s.mgmtFrame h (0x0C :: args))
  | .mgmtBadRequest _ h data => some (.panel, s.mgmtFrame h data)
  | _ => none

/-- This engine frame may begin an attempt (R72). -/
def maySend (t : State) (e : EngEntry) : Prop :=
  match e.body with
  | .switchOff c | .stopreq c => ¬outOfReach t c
  | .switchLevel c _ => e.purpose.isTerminal = true → ¬outOfReach t c
  | .openset => t.roster.openingSet ≠ [] ∧ ∀ c ∈ t.roster.openingSet, ¬outOfReach t c
  | .switchOn _ | .census _ => True

end Sys2Proof.Claims

/-- A frame within its data limit is read back, header, data and all, from the bytes that carry it; with any other
check byte, or data beyond the limit, the bytes are no frame. -/
def Obligations.FrameBytes : Prop :=
  (∀ f : Frame, f.fits = true → Frame.ofBytes f.toBytes = some f) ∧
  (∀ (f : Frame) (b : Byte), b ≠ crc8 (f.headerBytes ++ f.data) → Frame.ofBytes (f.headerBytes ++ f.data ++ [b]) = none) ∧
  ∀ f : Frame, dataLimit f.head.long < f.data.length → Frame.ofBytes f.toBytes = none

/-- A channel set is 6 bytes and a node set 8; member m is the bit of weight 2^(7 - m mod 8) in byte m div 8. -/
def Obligations.SetLayout : Prop :=
  (∀ (cs : List Channel) (c : Channel), (channelSet cs).length = 6 ∧
    ((channelSet cs).getD (c.val / 8) 0).getLsbD (7 - c.val % 8) = decide (c ∈ cs)) ∧
  ∀ (ns : List NodeId) (n : NodeId), (nodeSet ns).length = 8 ∧
    ((nodeSet ns).getD (n.toNat / 8) 0).getLsbD (7 - n.toNat % 8) = decide (n ∈ ns)

/-- A symbol violation, or the 66th byte after a header, takes an ACTIVE port that is neither sending nor answering to
SILENT, its queues unchanged; 10 recessive bit times take it back to ACTIVE. Bytes that fail the check-byte test, or
that exceed the data limit, are dropped at an ACTIVE port without an answer, a hearing or forwarding. A frame that
arrives with the part's own node ID as its source is dropped in the same way, and no ID of a roll after it is heard (log
45). A frame at a port that is not ACTIVE is not received at all: of every arrival command nothing but its time
remains. A symbol violation in an attempt or in an answer that is given cuts it off: a retry pause follows (log 19),
and a third attempt has ended with no answer in the same step (log 17). IDs of a collected roll that came before the violation stand, and the attempt ends with them. -/
def Obligations.SilentPortAndDroppedFrame : Prop :=
  (∀ (s : State) (dt : Nat) (p : PortId),
     ((s.core p).state = .active → portQuiet s p →
       (∀ roll, Becomes (.symbolViolation dt p roll) s (portBecomes s dt p silentCore)) ∧
       Becomes (.dataOverrun dt p) s (portBecomes s dt p silentCore)) ∧
     ((s.core p).state = .silent → (s.core p).startUp = false →
       Becomes (.silentEnd dt p) s (portBecomes s dt p activeCore))) ∧
  (∀ (s : State) (dt : Nat) (p : PortId) (bytes : List Byte), (s.core p).state = .active → Frame.ofBytes bytes = none →
     Becomes (.checkByteMismatch dt p bytes) s (frameDropped s dt p)) ∧
  (∀ (s : State) (i : Instr) (p : PortId) (f : Frame), arrivesAt s i = some (p, f) →
     ((s.core p).state ≠ .active → Becomes i s (later s i.elapsed)) ∧
     ((s.core p).state = .active → f.fits = true → f.head.source = s.nodeId →
       Becomes i s (frameDropped s i.elapsed p))) ∧
  (∀ (s : State) (dt : Nat) (p : PortId) (roll : List Byte), (s.core p).state = .active → rollIds roll = [] →
     cutsOff s dt (.symbolViolation dt p roll) p) ∧
  ∀ (s : State) (dt : Nat) (roll : List Byte), s.load.port.state = .active → rollIds roll ≠ [] →
     (∀ (e : EngEntry) (rest : List EngEntry), s.load.sending = some .engine → s.load.engine = e :: rest →
       if e.purpose = .census ∨ e.purpose = .openset then
         endsSilent s (.symbolViolation dt .load roll) (outcomeOf e.purpose dt roll)
       else exec (.symbolViolation dt .load roll) s = exec (.symbolViolation dt .load []) s) ∧
     ∀ (e : FwdEntry) (rest : List FwdEntry), s.load.sending = some .forward → s.load.forward = e :: rest →
       if answerKind e.frame.kind = .roll then
         endsSilent s (.symbolViolation dt .load roll) (.forwardedOutcome dt roll)
       else exec (.symbolViolation dt .load roll) s = exec (.symbolViolation dt .load []) s

/-- The 257th dominant bit time takes a port to FAULT and raises PORT_FAULT: its attempt is void, with its frame and
attempt number kept and nothing heard of a roll part way through (log 48), and every queue is held. 11 recessive bit times take it to ACTIVE, and PORT_FAULT is cleared when
the other port is not in FAULT. After a reset, once the store read has ended, 11 recessive bit times make a port
ACTIVE; the Load Port then takes the first round of the census that the reset requested, with no node answered yet,
and so it does at its return from FAULT with a census PENDING (log 21). While the store is read both ports stay
SILENT: FAULT is neither entered nor left, and PORT_FAULT is not raised (log 20). -/
def Obligations.FaultAndStartOfPorts : Prop :=
  (∀ (s : State) (dt : Nat),
     ((s.core .load).state ≠ .fault → s.mgmt.reading = false →
       Becomes (.portFaultEntry dt .load) s { later s dt with
         load := { s.load with port := faultCore, sending := none }
         alerts := { s.alerts with portFault := true } }) ∧
     ((s.core .panel).state ≠ .fault → s.mgmt.reading = false →
       Becomes (.portFaultEntry dt .panel) s { later s dt with
         panel := { s.panel with
           port := faultCore
           sending := none
           answer := if s.panel.port.position = .answerField then .none else s.panel.answer }
         alerts := { s.alerts with portFault := true } }) ∧
     ((s.core .panel).state = .fault → s.mgmt.reading = false →
       Becomes (.portFaultEnd dt .panel) s { later s dt with
         panel := { s.panel with port := activeCore }
         alerts := { s.alerts with portFault := decide (s.load.port.state = .fault) } }) ∧
     ((s.core .load).state = .fault → s.mgmt.reading = false → s.roster.census ≠ .pending →
       Becomes (.portFaultEnd dt .load) s { later s dt with
         load := { s.load with port := activeCore }
         alerts := { s.alerts with portFault := decide (s.panel.port.state = .fault) } }) ∧
     ((s.core .load).state = .fault → s.mgmt.reading = false → s.roster.census = .pending →
       s.load.awaitCensus = false → s.load.engine.length < 8 →
       Becomes (.portFaultEnd dt .load) s { later s dt with
         roster := { s.roster with census := .running, round := 1, answered := [], unlisted := false }
         load := { s.load with
           port := activeCore
           engine := s.load.engine ++ [queuedAs s (.census []) .census] }
         alerts := { s.alerts with portFault := decide (s.panel.port.state = .fault) } }) ∧
     (s.mgmt.reading = true → ∀ p : PortId,
       Becomes (.portFaultEntry dt p) s (later s dt) ∧ Becomes (.portFaultEnd dt p) s (later s dt) ∧
         Becomes (.portActiveAfterReset dt p) s (later s dt))) ∧
  (∀ (s : State) (dt : Nat) (p : PortId), (s.core p).state = .silent → (s.core p).startUp = true →
     s.mgmt.reading = false →
     (p = .panel → Becomes (.portActiveAfterReset dt p) s (portBecomes s dt p activeCore)) ∧
     (p = .load → s.roster.census = .pending → s.load.awaitCensus = false → s.load.engine.length < 8 →
       Becomes (.portActiveAfterReset dt p) s { later s dt with
         roster := { s.roster with census := .running, round := 1, answered := [], unlisted := false }
         load := { s.load with
           port := activeCore
           engine := s.load.engine ++ [queuedAs s (.census []) .census] } }))

/-- A bit error in an attempt of either port, or in an answer that the Panel Port gives, cuts it off and takes the port
to SILENT: a first or second attempt leaves its frame at the head, one more attempt counted, in a retry pause of 100
ms; a third ends with no answer at the Load Port and discards a frame whose answer nobody collects. A lost arbitration
begins no attempt: the chosen frame, its count and its queue stay, and the port receives the winner, whose header is
the lower one. Until the winner has arrived or been dropped, neither a send nor another loss does anything. The pause
is counted from the millisecond of the command (log 19), and the third attempt's outcome is handed over in the same
step (log 17). -/
def Obligations.BitErrorAndLostArbitration : Prop :=
  (∀ (s : State) (dt : Nat) (p : PortId), (s.core p).state = .active → cutsOff s dt (.bitError dt p) p) ∧
  (∀ (s : State) (dt : Nat) (winner : BitVec 24) (f : Frame),
     (portFree s .load → (later s dt).choiceStands = true → (later s dt).loadChosen = some f → winner < f.headerWord →
       Becomes (.arbitrationLost dt .load winner) s { later s dt with
         load := { s.load with port := { s.load.port with position := .headerData } } }) ∧
     (portFree s .panel → (later s dt).panelChosen = some f → winner < f.headerWord →
       Becomes (.arbitrationLost dt .panel winner) s { later s dt with
         panel := { s.panel with port := { s.panel.port with position := .headerData } } })) ∧
  ∀ (s : State) (dt : Nat) (winner : BitVec 24),
     (s.load.sending = none → s.load.port.position = .headerData →
       Becomes (.loadPortSend dt) s (later s dt) ∧ Becomes (.arbitrationLost dt .load winner) s (later s dt)) ∧
     (s.panel.sending = none → s.panel.port.position = .headerData →
       Becomes (.panelPortSend dt) s (later s dt) ∧ Becomes (.arbitrationLost dt .panel winner) s (later s dt))

/-- The arbiter: an eligible engine head goes, unless a forwarded head is eligible and four engine attempts in a row
have gone before it; otherwise an eligible forwarded head goes; otherwise the port waits. The engine count steps by
one at an engine attempt beside an eligible forwarded head, and is 0 after any other attempt. -/
def Obligations.ArbiterChooses : Prop :=
  ∀ (s : State) (dt : Nat), portFree s .load → (later s dt).choiceStands = true →
    let engine := s.load.engine.any (fun _ => true) && rested (s.now + dt) (s.load.engine.head?.bind EngEntry.pauseEnd)
    let fwd := s.load.forward.any (fun _ => true) && rested (s.now + dt) (s.load.forward.head?.bind FwdEntry.pauseEnd)
    let sends (q : LoadQ) (count : Nat) : Part := { later s dt with load := { s.load with
      sending := some q, engineCount := count, port := { s.load.port with position := .headerData } } }
    Becomes (.loadPortSend dt) s
      (if engine ∧ (fwd = false ∨ s.load.engineCount < 4) then
        sends .engine (if fwd then s.load.engineCount + 1 else 0)
      else if fwd then sends .forward 0
      else later s dt)

/-- No attempt begins of a SWITCH OFF, a terminal SWITCH LEVEL or a STOPREQ for a channel that is tier 0 or RELEASED,
nor of an OPENSET with such a channel, or none, in its set. -/
def Obligations.NoExemptFrameBegins : Prop :=
  ∀ (s : State) (dt : Nat), s.load.sending = none →
    ∃ t, exec (.loadPortSend dt) s = .next t ∧
      (t.load.sending = some .engine → ∀ e, t.load.engine.head? = some e → maySend t e)

/-- The Panel Port sends the head of the notice queue unless it is in its retry pause, and otherwise the head of the
panel forward queue; a frame leaves its queue when its check byte is out. -/
def Obligations.PanelPortSends : Prop :=
  (∀ (s : State) (dt : Nat), portFree s .panel →
    let notice := s.panel.notices.any (fun _ => true) &&
      rested (s.now + dt) (s.panel.notices.head?.bind NoticeEntry.pauseEnd)
    let fwd := s.panel.forward.any (fun _ => true) && rested (s.now + dt) (s.panel.forward.head?.bind FwdEntry.pauseEnd)
    let sends (q : PanelQ) : Part := { later s dt with panel := { s.panel with
      sending := some q, answer := .none, port := { s.panel.port with position := .headerData } } }
    Becomes (.panelPortSend dt) s (if notice then sends .notice else if fwd then sends .forward else later s dt)) ∧
  ∀ (s : State) (dt : Nat),
    let ended : PortCore := { s.panel.port with position := .frameEnd }
    (s.panel.sending = some .notice → Becomes (.frameSent dt .panel) s { later s dt with
      panel := { s.panel with sending := none, port := ended, notices := s.panel.notices.tail } }) ∧
    (s.panel.sending = some .forward → Becomes (.frameSent dt .panel) s { later s dt with
      panel := { s.panel with sending := none, port := ended, forward := s.panel.forward.tail } }) ∧
    ∀ (e : FwdEntry) (rest : List FwdEntry), s.load.sending = some .forward → s.load.forward = e :: rest →
      answerKind e.frame.kind ≠ .verdict → answerKind e.frame.kind ≠ .roll →
      Becomes (.frameSent dt .load) s { later s dt with
        load := { s.load with
          sending := none, port := { s.load.port with position := .frameEnd }, forward := rest } }

/-- A first or second attempt of the Load Port that ends with no answer leaves its frame at the head, one more attempt
counted, in a retry pause of 100 ms; the pause's end makes it eligible again. The pause is counted from the
millisecond of the command (log 19). -/
def Obligations.RetryPauses : Prop :=
  ∀ (s : State) (dt : Nat),
    let ended : PortCore := { s.load.port with position := .frameEnd }
    (∀ (e : EngEntry) (rest : List EngEntry), s.load.sending = some .engine → s.load.engine = e :: rest →
      e.attempts < 2 →
      Becomes (.attemptNoAnswer dt) s { later s dt with load := { s.load with
        sending := none, port := ended, engine := pausedEng (s.now + dt) e :: rest } }) ∧
    (∀ (e : FwdEntry) (rest : List FwdEntry), s.load.sending = some .forward → s.load.forward = e :: rest →
      e.attempts < 2 → answerKind e.frame.kind = .verdict ∨ answerKind e.frame.kind = .roll →
      Becomes (.attemptNoAnswer dt) s { later s dt with load := { s.load with
        sending := none, port := ended, forward := pausedFwd (s.now + dt) e :: rest } }) ∧
    (∀ (e : EngEntry) (rest : List EngEntry) (d : Nat), s.load.engine = e :: rest → e.pauseEnd = some d →
      d ≤ s.now + dt →
      Becomes (.retryPauseEnd dt .engine) s { later s dt with load := { s.load with
        engine := { e with pauseEnd := none } :: rest } }) ∧
    (∀ (e : FwdEntry) (rest : List FwdEntry) (d : Nat), s.load.forward = e :: rest → e.pauseEnd = some d →
      d ≤ s.now + dt →
      Becomes (.retryPauseEnd dt .loadForward) s { later s dt with load := { s.load with
        forward := { e with pauseEnd := none } :: rest } }) ∧
    (∀ (e : NoticeEntry) (rest : List NoticeEntry) (d : Nat), s.panel.notices = e :: rest → e.pauseEnd = some d →
      d ≤ s.now + dt →
      Becomes (.retryPauseEnd dt .notice) s { later s dt with panel := { s.panel with
        notices := { e with pauseEnd := none } :: rest } }) ∧
    ∀ (e : FwdEntry) (rest : List FwdEntry) (d : Nat), s.panel.forward = e :: rest → e.pauseEnd = some d →
      d ≤ s.now + dt →
      Becomes (.retryPauseEnd dt .panelForward) s { later s dt with panel := { s.panel with
        forward := { e with pauseEnd := none } :: rest } }

/-- A panel frame that is neither a channel's SWITCH nor addressed to the part: one for a channel, a listed module or
all nodes is placed in the load forward queue while it has room, tied to the channel's owning module or to the named
one, and answered PASSED, or BUSY when it found no room, when its kind carries a verdict; any other frame gets no
answer. That a CENSUS or an OPENSET among them is tied as well is the model's choice (log 41). -/
def Obligations.PanelFrameForwarded : Prop :=
  ∀ (s : State) (dt : Nat) (f : Frame), PanelTakes s f.head → f.fits = true → switchToChannel f = false →
    targetClass f.target ≠ .node s.nodeId →
    let passes : Bool := match targetClass f.target with
      | .node n => s.mgmt.active.rosterNodes.contains n
      | .channel _ | .broadcast => true
      | .unassigned => false
    let tie : Option NodeId := match targetClass f.target with
      | .node n => some n
      | .channel c => s.owner c
      | .broadcast | .unassigned => none
    let answers (a : Answer) : Part := Part.give (later s dt) a
    let placed (a : Answer) : Part := Part.give { later s dt with load := { s.load with
      forward := s.load.forward ++ [{ frame := f, tie := tie, attempts := 0, pauseEnd := none }] } } a
    let verdict : Bool := decide (f.kind = kindSwitch ∨ f.kind = kindStopreq)
    Becomes (.panelFrameArrival dt f) s
      (if passes = false then answers .none
      else if s.load.forward.length < 8 then placed (if verdict then .verdict 0x10 else .none)
      else answers (if verdict then .verdict 0x13 else .none))

namespace Sys2Proof.Claims

/-- The OPENSET has entered the engine queue, ahead of every frame but one on the bus, with the owners of its members
recorded (R127, R156). -/
def opensetQueued (s : State) : Part :=
  let front := if s.load.sending = some .engine then 1 else 0
  { s.toPart with
    roster := { s.roster with opening := .sent, owners := s.roster.openingSet.map fun c => (c, s.owner c) }
    load := { s.load with
      awaitOpenset := false
      engine := s.load.engine.take front ++ queuedAs s .openset .openset :: s.load.engine.drop front } }

/-- A census round has entered the engine queue at its tail: the first with no node answered and the unlisted-node mark
clear, each further one with the answered set as it stands (R124, R156). -/
def roundQueued (s : State) : Part :=
  let first := s.roster.census ≠ .running
  let answered := if first then [] else s.roster.answered
  { s.toPart with
    roster := { s.roster with
      census := .running
      round := if first then 1 else s.roster.round + 1
      answered := answered
      unlisted := if first then false else s.roster.unlisted }
    load := { s.load with
      awaitCensus := false, engine := s.load.engine ++ [queuedAs s (.census answered) .census] } }

/-- The confirmed mark of the channel is cleared by the withdrawal of a command for this purpose: it was queued for the
state in which the channel still is (R60, R67, R107, log 37). -/
def withdrawalActs (x : ChanState) (p : Purpose) : Bool :=
  match x, p with
  | .shed, .resend | .overridden, .boostOn | .restoring, .restore | .restoring, .resume => true
  | _, _ => false

/-- R72 withdraws this frame at its next attempt: a SWITCH OFF, a terminal's SWITCH LEVEL or a STOPREQ for a channel
that is out of reach. -/
def isExempt (s : State) (e : EngEntry) (c : Channel) : Prop :=
  outOfReach s c ∧
  (e.body = .switchOff c ∨ e.body = .stopreq c ∨ ∃ n, e.body = .switchLevel c n ∧ e.purpose.isTerminal = true)

/-- A terminal of the channel still stands among these frames, or in an opening (R60, log 39). -/
def standsIn (q : List EngEntry) (opening : List Channel) (c : Channel) : Bool :=
  q.any (fun e => e.purpose.isTerminal && decide (e.body.channel = some c)) || decide (c ∈ opening)

end Sys2Proof.Claims

/-- A notice enters the notice queue while it holds fewer than 4, with the lost-before bit if one was lost since the
last, and is lost with the overflow mark set otherwise. A command enters the engine queue while it holds fewer than 8,
tied to its channel's owning module, and otherwise awaits a slot in place of an awaiting one of its kind for its
channel. A freed slot goes to the OPENSET, which enters ahead of every frame but one on the bus with the owners of its
members recorded, then to the census round, which carries the answered set, then to the oldest command of the
lowest-numbered channel, also past an older one of a higher channel. At the next attempt a frame for a channel that is
tier 0 or RELEASED is withdrawn: it counts for nothing in presence, acts on no programme, clears the terminal in flight mark unless another
terminal stands (log 39), and ends a restore. The withdrawal of a repeated terminal of a SHED channel clears the
confirmed mark, and so does that of a restore or resume of a RESTORING one, which becomes LIVE (log 37). Such members
leave an OPENSET, and one left without members is withdrawn and ended. -/
def Obligations.QueueSlots : Prop :=
  (∀ (s : State) (b : NoticeBody),
    s.toPart.notify b =
      if s.panel.notices.length < 4 then
        { s.toPart with panel := { s.panel with notices := s.panel.notices ++ [noticeOf s b], overflow := false } }
      else { s.toPart with panel := { s.panel with overflow := true } }) ∧
  (∀ (s : State) (b : EngBody) (p : Purpose),
    (s.load.engine.length < 8 →
      s.toPart.request b p =
        { s.toPart with load := { s.load with engine := s.load.engine ++ [queuedAs s b p] } }) ∧
    (8 ≤ s.load.engine.length →
      (s.toPart.request b p).load.engine = s.load.engine ∧
      (s.toPart.request b p).load.awaiting =
        s.load.awaiting.filter (fun r => !r.body.sameKind b) ++ [{ body := b, purpose := p }])) ∧
  (∀ s : State,
    (s.toPart.queueOpenset = opensetQueued s ∧ s.toPart.queueRound = roundQueued s) ∧
    (8 ≤ s.load.engine.length → s.toPart.grant = s.toPart ∧
      s.toPart.askOpenset = { s.toPart with load := { s.load with awaitOpenset := true } } ∧
      s.toPart.askRound = { s.toPart with load := { s.load with awaitCensus := true } }) ∧
    (s.load.engine.length < 8 →
      (s.toPart.askOpenset = opensetQueued s ∧ s.toPart.askRound = roundQueued s) ∧
      (s.load.awaitOpenset = true → s.toPart.grant = opensetQueued s) ∧
      (s.load.awaitOpenset = false → s.load.awaitCensus = true → s.toPart.grant = roundQueued s) ∧
      (s.load.awaitOpenset = false → s.load.awaitCensus = false → s.load.awaiting = [] → s.toPart.grant = s.toPart) ∧
      ∀ (pre post : List Request) (r : Request) (c : Channel),
        s.load.awaitOpenset = false → s.load.awaitCensus = false → s.load.awaiting = pre ++ r :: post →
        r.body.channel = some c → (∀ q ∈ pre, ∀ d, q.body.channel = some d → c < d) →
        (∀ q ∈ post, ∀ d, q.body.channel = some d → c ≤ d) →
        s.toPart.grant = { s.toPart with load := { s.load with
          awaiting := pre ++ post, engine := s.load.engine ++ [queuedAs s r.body r.purpose] } })) ∧
  (∀ (s : State) (dt : Nat) (e : EngEntry) (rest : List EngEntry) (c : Channel), SlotsSound s.toPart →
    portFree s .load → s.load.engine = e :: rest → s.load.forward = [] →
    rested (s.now + dt) e.pauseEnd = true → s.load.awaiting = [] → s.load.awaitOpenset = false →
    s.load.awaitCensus = false → e.purpose ≠ .census → e.purpose ≠ .openset → e.body.channel = some c →
    isExempt s e c →
    (∀ y ∈ rest.head?, maySend s y) →
    ∃ t, exec (.loadPortSend dt) s = .next t ∧
      let acts := withdrawalActs s.chans[c].state e.purpose
      let ends := decide (s.chans[c].state = .restoring) && acts
      t.load.engine = rest ∧ t.roster = s.roster ∧ t.ctxs = s.ctxs ∧ t.alerts = s.alerts ∧ t.assess = s.assess ∧
      t.panel = (if ends then (s.toPart.notify (.channel c .live)).panel else s.panel) ∧
      (∀ d : Channel, d ≠ c → t.chans[d] = s.chans[d]) ∧
      t.chans[c] = { s.chans[c] with
        state := if ends then .live else s.chans[c].state
        confirmed := s.chans[c].confirmed && !acts
        inFlight := s.chans[c].inFlight &&
          !(e.purpose.isTerminal && !standsIn rest (s.roster.openingSet ++ s.roster.further) c) } ∧
      t.seq = (if e.purpose = .restore then
          { s.seq with
            restoring := none, state := .spacing, spacingAt := some (s.now + dt + s.settings.restoreSpacing) }
        else s.seq) ∧
      (t.load.sending = if rest.any (fun _ => true) ∧ rested (s.now + dt) (rest.head?.bind EngEntry.pauseEnd) then
        some .engine else none)) ∧
  ∀ (s : State) (dt : Nat) (e : EngEntry) (rest : List EngEntry), SlotsSound s.toPart →
    portFree s .load → s.load.engine = e :: rest → s.load.forward = [] →
    rested (s.now + dt) e.pauseEnd = true → s.load.awaiting = [] → s.load.awaitCensus = false →
    e.body = .openset → e.purpose = .openset → s.roster.further = [] → (∀ y ∈ rest.head?, maySend s y) →
    let out (c : Channel) : Bool := decide (s.tier c = 0 ∨ s.chans[c].state = .released)
    let kept := s.roster.openingSet.filter fun c => !out c
    (∀ c ∈ s.roster.openingSet, out c = true → s.ctxs[c] = none) →
    ∃ t, exec (.loadPortSend dt) s = .next t ∧ t.roster.presence = s.roster.presence ∧ t.ctxs = s.ctxs ∧
      t.seq = s.seq ∧ t.panel = s.panel ∧
      (∀ d : Channel, t.chans[d] =
        if d ∈ s.roster.openingSet ∧ out d = true ∧ standsIn s.load.engine [] d = false then
          { s.chans[d] with inFlight := false }
        else s.chans[d]) ∧
      if kept = [] then t.roster.opening = .idle ∧ t.roster.openingSet = [] ∧ t.load.engine = rest
      else t.roster.opening = s.roster.opening ∧ t.roster.openingSet = kept ∧ t.load.engine = s.load.engine ∧
        t.load.sending = some .engine

/-! ## 09: tables, management frames, the setting store -/

namespace Sys2Proof.Claims

/-- The part answers a management frame with these DATA bytes, and nothing else happens. -/
def answers (s : State) (dt : Nat) (bytes : List Byte) : Part := Part.giveData (later s dt) bytes

/-- Slot `n` of a programme ends it, with OPEN or DIM, after used slots that are no terminals, and every slot after it
is NONE (R78). -/
def endsAt (p : Programme) (n : Fin 4) : Prop :=
  p[n].kind.isTerminal = true ∧ (∀ k : Fin 4, k < n → p[k].kind ≠ .none ∧ p[k].kind.isTerminal = false) ∧
    ∀ k : Fin 4, n < k → p[k].kind = .none

/-- A programme keeps the four combining rules (R79). -/
def combines (p : Programme) : Prop :=
  ∃ n : Fin 4, endsAt p n ∧ (∀ k : Fin 4, k.val + 1 = n.val → p[k].kind.isSkip = false) ∧
    ∀ j k : Fin 4, p[j].kind = .stopAsk → p[k].kind = .stopAsk → j = k

/-- Slot `k` of a programme is a used slot: no slot up to it is NONE (R78). -/
def usedSlot (p : Programme) (k : Fin 4) : Prop := ∀ j : Fin 4, j ≤ k → p[j].kind ≠ .none

/-- A programme breaks this combining rule (R79). -/
def breaks (p : Programme) (rule : Nat) : Prop :=
  (rule = 1 ∧ (p[(0 : Fin 4)].kind = .none ∨ ∃ j k : Fin 4, j < k ∧ p[j].kind = .none ∧ p[k].kind ≠ .none)) ∨
  (rule = 2 ∧ ¬∃ n : Fin 4, usedSlot p n ∧ p[n].kind.isTerminal = true ∧
    ∀ k : Fin 4, usedSlot p k → k ≤ n ∧ (k ≠ n → p[k].kind.isTerminal = false)) ∨
  (rule = 3 ∧ ∃ j k : Fin 4, j.val + 1 = k.val ∧ usedSlot p k ∧ p[j].kind.isSkip = true ∧ p[k].kind.isTerminal = true) ∨
  (rule = 4 ∧ ∃ j k : Fin 4, j < k ∧ usedSlot p k ∧ p[j].kind = .stopAsk ∧ p[k].kind = .stopAsk)

/-- The 14 bytes of a CHANNEL answer given at `now'` (R178, 07 section 7.8): 0xFF and 0xFFFF stand for an absent value;
the seconds are whole ones, 0 once their time is reached; those to the ready time are given in SHED alone. -/
def channelAnswer (s : State) (now' : Nat) (c : Channel) : List Byte :=
  let r := s.chans[c]
  let x := s.ctxs[c]
  let orFF (v : Option Nat) : Byte := byteOf (v.getD 0xFF)
  let marks : Nat := (if r.managed then 0x80 else 0) + (if r.confirmed then 0x40 else 0)
    + (if r.unreachable then 0x20 else 0) + (if r.inFlight then 0x10 else 0) + (if r.resend then 0x08 else 0)
    + (if r.offSince.isSome then 0x04 else 0) + (if x.any Context.requestSent then 0x02 else 0)
    + (if ∃ i : Fin 4, s.overrides[i].map Override.ch = some c then 0x01 else 0)
  let ready : Nat :=
    if r.state = .shed then
      match r.offSince with
      | none => 0
      | some off => (off + 1000 * (s.cfg c).minOff - now') / 1000
    else 0xFFFF
  let deadline : Nat :=
    match x.bind Context.deadline with
    | none => 0xFFFF
    | some d => (d - now') / 1000
  [byteOf r.state.code, orFF (r.intent.map Intent.code), byteOf marks, orFF r.level, orFF r.current,
    orFF (r.status.map Appliance.code), orFF (r.terminal.map Terminal.code), orFF (s.seq.list.findIdx? (· == c))]
  ++ be16 ready ++ [orFF (x.map Context.index), orFF (x.map fun y => y.awaited.code)] ++ be16 deadline

/-- SETTINGS fields 0..23: first byte, width, minimum and maximum (R171; the record's layout in 07 section 7.8). -/
def settingsFields : List (Nat × Nat × Nat × Nat) :=
  [(0, 2, 1, 1000), (2, 2, 900, 1000), (4, 2, 0, 2000), (6, 1, 0, 6), (7, 1, 0, 8), (8, 2, 0, 500), (10, 1, 0, 200),
    (11, 2, 9000, 30000), (13, 1, 0, 7), (14, 1, 1, 60), (15, 2, 0, 2000), (17, 2, 8000, 30000)]
  ++ [(20, 1, 1, 20), (21, 2, 0, 2000), (23, 1, 1, 60), (24, 2, 0, 600), (26, 1, 0, 7), (27, 2, 0, 600),
    (29, 2, 10, 600), (31, 2, 100, 10000), (33, 2, 0, 30000), (35, 2, 0, 1000), (37, 2, 10, 600), (39, 1, 0, 63)]

/-- What LIMITS answers for the fields of a table: V_full as 0..30000, a step argument as 1..600, the flags as
0x00..0xC0 (R172). -/
def limitsOf : TableId → List (Nat × Nat)
  | .settings => settingsFields.map fun r => (r.2.2.1, r.2.2.2)
  | .bands => [(0, 7), (0, 1000)]
  | .channels => [(0, 7), (0, 7), (1, 600), (0, 7), (1, 600), (0, 7), (1, 600), (0, 7), (1, 600), (1, 99), (0, 3600),
      (0, 250), (0, 192), (1, 240)]
  | .roster => [(0, 63), (0, 47)]

/-- The byte of a record at an offset, and the two bytes from there, the more significant first (R149). -/
def byteOn (bs : List Byte) (k : Nat) : Nat := (bs.getD k 0).toNat
def wordOn (bs : List Byte) (k : Nat) : Nat := 256 * byteOn bs k + byteOn bs (k + 1)

/-- A value taken to the nearer limit of its range (R171). -/
def limited (lo hi v : Nat) : Nat := if v < lo then lo else if hi < v then hi else v

/-- A SETTINGS field as it is sent, and as LOAD stores it: V_full goes from 1..5999 to 0 and from 6000..11999 to 12000
(R171). -/
def settingSent (bs : List Byte) (i : Fin 24) : Nat :=
  let row := settingsFields.getD i.val (0, 1, 0, 0)
  if row.2.1 = 1 then byteOn bs row.1 else wordOn bs row.1
def settingStored (bs : List Byte) (i : Fin 24) : Nat :=
  let row := settingsFields.getD i.val (0, 1, 0, 0)
  let v := settingSent bs i
  if i.val = 20 then
    if 1 ≤ v ∧ v ≤ 5999 then 0 else if 6000 ≤ v ∧ v ≤ 11999 then 12000 else if 30000 < v then 30000 else v
  else limited row.2.2.1 row.2.2.2 v

/-- The ending of a BANDS record as it is sent (07 section 7.8). -/
def endingSent (bs : List Byte) : Nat := wordOn bs 0 % 1024

/-- The records that LOAD stores for these bytes (R150, R171). A step kind above 7 is NONE; a step argument is limited
to 1..600 for STOP_ASK, WAIT_IDLE and HOLD and stored as given for any other kind; bytes and bits without a field are
stored as given, and bits 5..0 of the flag byte are not. -/
def storedSettings (bs : List Byte) : Settings :=
  { val := Vector.ofFn fun i => settingStored bs i
    byte19 := bs.getD 19 0
    spare := Vector.ofFn fun i : Fin 8 => bs.getD (40 + i.val) 0 }
def storedBand (bs : List Byte) : Band :=
  { depth := wordOn bs 0 / 8192, spare := BitVec.ofNat 3 (wordOn bs 0 / 1024), ending := limited 0 1000 (endingSent bs) }
def storedSlot (bs : List Byte) (k : Fin 4) : StepSlot :=
  let code := byteOn bs (1 + 3 * k.val)
  let arg := wordOn bs (2 + 3 * k.val)
  { kind := [StepKind.none, .stopAsk, .waitIdle, .hold, .skipIfIdle, .skipIfRunning, .openOut, .dim].getD code .none
    arg := if 1 ≤ code ∧ code ≤ 3 then limited 1 600 arg else arg }
def storedChannel (bs : List Byte) : ChannelCfg :=
  { tier := limited 0 7 (byteOn bs 0)
    steps := Vector.ofFn fun k => storedSlot bs k
    dim := limited 1 99 (byteOn bs 13)
    minOff := limited 0 3600 (wordOn bs 14)
    idle := limited 0 250 (byteOn bs 16)
    boostOk := decide (128 ≤ byteOn bs 17)
    protect := decide (64 ≤ byteOn bs 17 % 128)
    boostMax := limited 1 240 (byteOn bs 18) }
def storedRoster (bs : List Byte) : RosterEntry :=
  { node := BitVec.ofNat 6 (limited 0 63 (byteOn bs 0)), ending := limited 0 47 (byteOn bs 1) }

/-- A field of the record was clamped, a step kind above 7 included (R171). -/
def channelClamped (bs : List Byte) : Prop :=
  7 < byteOn bs 0 ∨ byteOn bs 13 = 0 ∨ 99 < byteOn bs 13 ∨ 3600 < wordOn bs 14 ∨ 250 < byteOn bs 16 ∨
    byteOn bs 18 = 0 ∨ 240 < byteOn bs 18 ∨
    ∃ k : Fin 4, 7 < byteOn bs (1 + 3 * k.val) ∨ (storedSlot bs k).arg ≠ wordOn bs (2 + 3 * k.val)

/-- The tie that a queued frame has after the swap: none once its node is in the roster no more (R130). -/
def tieAfterSwap (s : State) (tie : Option NodeId) : Option NodeId :=
  tie.filter fun n => s.mgmt.shadow.rosterNodes.contains n

/-- The presence record of a node that has just been listed. -/
def freshRecord (n : NodeId) : PresenceRec := { node := n, state := .expected, unanswered := 0, silenceAt := none }

end Sys2Proof.Claims

/-- Tables whose fields are within their ranges are read back from their 1000 bytes as they were. -/
def Obligations.TablesReadBack : Prop :=
  ∀ t : Tables, t.inRange = true → t.encode.length = 1000 ∧ Tables.ofBytes t.encode = t

/-- LOAD: the tests of table, form and index come first, each with its result code; in PENDING it is BUSY; otherwise
each named record of the shadow is the record sent for it with every field clamped to its range, V_full and the step
kinds by their own rules, the other records stay, and the answer is CLAMPED exactly when a named field was clamped, and
OK otherwise. Nothing else changes. The queries answer and change nothing:
READ gives up to 15 bytes of the active record from the offset, a band's unread bits as they are stored (log 47), LIMITS
the field's minimum and maximum of the tables of R171, STATUS the stored demands, depth, states, readings, marks and
alerts, CHANNEL the channel's 14 bytes; a table, index or field that does not exist has its result code. -/
def Obligations.LoadAndQueries : Prop :=
  (∀ (s : State) (dt : Nat) (h : Head) (t0 first count : Byte) (records : List Byte) (tb : TableId),
      PanelTakes s h → dataFits h (0x01 :: t0 :: first :: count :: records) →
      (tableOf t0 = none → Becomes (.load dt h (t0 :: first :: count :: records)) s (answers s dt [4])) ∧
      (tableOf t0 = some tb →
        if count = 0 ∨ records.length ≠ count.toNat * tb.size then
          Becomes (.load dt h (t0 :: first :: count :: records)) s (answers s dt [3])
        else if tb.records < first.toNat + count.toNat then
          Becomes (.load dt h (t0 :: first :: count :: records)) s (answers s dt [5])
        else if s.mgmt.commit = .pending then
          Becomes (.load dt h (t0 :: first :: count :: records)) s (answers s dt [2])
        else
          let chunk (k : Nat) : List Byte := (records.drop (tb.size * (k - first.toNat))).take tb.size
          let named (k : Nat) : Prop := first.toNat ≤ k ∧ k < first.toNat + count.toNat
          ∃ t, exec (.load dt h (t0 :: first :: count :: records)) s = .next t ∧
            t.toPart = { later s dt with
              mgmt := { s.mgmt with shadow := t.mgmt.shadow }
              panel := { s.panel with answer := t.panel.answer, port := { s.panel.port with position := .answerField } } } ∧
            (let clamped : Prop := match tb with
              | .settings => ∃ i : Fin 24, settingStored records i ≠ settingSent records i
              | .bands => ∃ k : Fin 8, named k.val ∧ 1000 < endingSent (chunk k.val)
              | .channels => ∃ k : Fin 48, named k.val ∧ channelClamped (chunk k.val)
              | .roster => ∃ k : Fin 12, named k.val ∧ (63 < byteOn (chunk k.val) 0 ∨ 47 < byteOn (chunk k.val) 1)
            (clamped → t.panel.answer = .data [1]) ∧ (¬clamped → t.panel.answer = .data [0])) ∧
            t.mgmt.shadow.settings =
              (if tb = .settings then storedSettings records else s.mgmt.shadow.settings) ∧
            (∀ k : Fin 8, t.mgmt.shadow.bands[k] =
              if tb = .bands ∧ named k.val then storedBand (chunk k.val) else s.mgmt.shadow.bands[k]) ∧
            (∀ k : Fin 48, t.mgmt.shadow.channels[k] =
              if tb = .channels ∧ named k.val then storedChannel (chunk k.val) else s.mgmt.shadow.channels[k]) ∧
            (∀ k : Fin 12, t.mgmt.shadow.roster[k] =
              if tb = .roster ∧ named k.val then storedRoster (chunk k.val) else s.mgmt.shadow.roster[k]))) ∧
  ∀ (s : State) (dt : Nat) (h : Head), PanelTakes s h →
      (∀ t0 i offset : Byte,
        Becomes (.read dt h [t0, i, offset]) s (answers s dt
          (match tableOf t0 with
            | none => [4]
            | some tb =>
              if tb.records ≤ i.toNat ∨ tb.size ≤ offset.toNat then [5]
              else 0 :: ((s.mgmt.active.recordBytes tb i.toNat).drop offset.toNat).take 15))) ∧
      (∀ t0 field : Byte,
        Becomes (.limits dt h [t0, field]) s (answers s dt
          (match tableOf t0 with
            | none => [4]
            | some tb =>
              match (limitsOf tb)[field.toNat]? with
              | none => [5]
              | some p => 0 :: (be16 p.1 ++ be16 p.2)))) ∧
      (Becomes (.status dt h []) s (answers s dt
        ([0, byteOf (16 * s.assess.escalation + s.assess.depth),
          byteOf (64 * s.mgmt.commit.code + 16 * s.reserve.monitor.code + s.assess.restore)]
        ++ be16 (if s.reserve.valid then s.reserve.reserve * 1000 / s.settings.cMas else 0xFFFF)
        ++ be16 s.reserve.vf ++ be16s s.reserve.cur ++ be16 (s.reserve.runtime.getD 0)
        ++ [byteOf ((if s.reserve.valid then 0x80 else 0) + (if s.reserve.runtime.isSome then 0x40 else 0)
              + (if s.assess.critical then 0x20 else 0) + (if s.assess.unsettled then 0x10 else 0)
              + (if s.roster.unlisted then 0x08 else 0)),
            byteOf ((if s.alerts.critical then 0x10 else 0) + (if s.alerts.monitorLost then 0x08 else 0)
              + (if s.alerts.moduleAbsent then 0x04 else 0) + (if s.alerts.portFault then 0x02 else 0)
              + (if s.alerts.defaults then 0x01 else 0))]
        ++ be16 s.assess.number))) ∧
      (∀ n : Byte, 47 < n.toNat → Becomes (.channel dt h [n]) s (answers s dt [5])) ∧
      ∀ c : Channel, Becomes (.channel dt h [byteOf c.val]) s (answers s dt (0 :: channelAnswer s (s.now + dt) c))

/-- The checks of COMMIT pass exactly for a shadow in which no non-empty band has a larger depth than an earlier
non-empty one, every programme of tier 1 or more keeps the combining rules, no two listed modules share a node ID,
none has the part's own, and every channel of tier 1 or more has an owning module. The first check that fails names
its table, record and reason, in this order: the lowest band out of order (1, 5), the lowest failing programme with the
lowest rule it breaks (2, 1..4), the higher entry of the lowest pair that shares a node ID (3, 6; log 26), the lowest
entry with the part's own (3, 7), the lowest channel without an owner (2, 8). COMMIT: BAD_REQUEST with arguments,
BUSY outside IDLE, INVALID with table, record and reason when a check fails, and otherwise OK with the commit PENDING;
nothing else changes. -/
def Obligations.CommitTested : Prop :=
  (∀ (t : Tables) (own : NodeId),
     let bandUsed (i : Fin 8) : Prop := ∀ j : Fin 8, j < i → t.bands[j].ending < t.bands[i].ending
     let listed (i : Fin 12) : Prop := ∀ j : Fin 12, j < i → t.roster[j].ending < t.roster[i].ending
     t.check own = none ↔
       (∀ i j : Fin 8, i < j → bandUsed i → bandUsed j → t.bands[j].depth ≤ t.bands[i].depth) ∧
       (∀ c : Channel, 1 ≤ t.channels[c].tier → combines t.channels[c].steps ∧ (t.owner c).isSome = true) ∧
       (∀ i j : Fin 12, listed i → listed j → t.roster[i].node = t.roster[j].node → i = j) ∧
       ∀ i : Fin 12, listed i → t.roster[i].node ≠ own) ∧
  (∀ (t : Tables) (own : NodeId),
     let bandUsed (i : Fin 8) : Prop := ∀ j : Fin 8, j < i → t.bands[j].ending < t.bands[i].ending
     let listed (i : Fin 12) : Prop := ∀ j : Fin 12, j < i → t.roster[j].ending < t.roster[i].ending
     let badBand (j : Fin 8) : Prop := bandUsed j ∧ ∃ i : Fin 8, i < j ∧ bandUsed i ∧ t.bands[i].depth < t.bands[j].depth
     let badSteps (c : Channel) : Prop := 1 ≤ t.channels[c].tier ∧ ∃ r, breaks t.channels[c].steps r
     let twins (i j : Fin 12) : Prop := i < j ∧ listed i ∧ listed j ∧ t.roster[i].node = t.roster[j].node
     let isOwn (i : Fin 12) : Prop := listed i ∧ t.roster[i].node = own
     let ownerless (c : Channel) : Prop := 1 ≤ t.channels[c].tier ∧ t.owner c = none
     (∀ j, badBand j → (∀ i, i < j → ¬badBand i) → t.check own = some ⟨1, j.val, 5⟩) ∧
     ((∀ j, ¬badBand j) →
       (∀ c r, badSteps c → (∀ d, d < c → ¬badSteps d) → breaks t.channels[c].steps r →
         (∀ q, q < r → ¬breaks t.channels[c].steps q) → t.check own = some ⟨2, c.val, r⟩) ∧
       ((∀ c, ¬badSteps c) →
         (∀ i j, twins i j → (∀ i' j', twins i' j' → i < i' ∨ (i = i' ∧ j ≤ j')) → t.check own = some ⟨3, j.val, 6⟩) ∧
         ((∀ i j, ¬twins i j) →
           (∀ i, isOwn i → t.check own = some ⟨3, i.val, 7⟩) ∧
           ((∀ i, ¬isOwn i) →
             ∀ c, ownerless c → (∀ d, d < c → ¬ownerless d) → t.check own = some ⟨2, c.val, 8⟩))))) ∧
  (∀ (s : State) (dt : Nat) (h : Head) (args : List Byte), PanelTakes s h → dataFits h (0x02 :: args) →
     if args ≠ [] then Becomes (.commit dt h args) s (answers s dt [3])
     else if s.mgmt.commit ≠ .idle then Becomes (.commit dt h args) s (answers s dt [2])
     else
       (s.mgmt.shadow.check s.nodeId = none →
         Becomes (.commit dt h args) s
           (Part.giveData { later s dt with mgmt := { s.mgmt with commit := .pending } } [0])) ∧
       ∀ v, s.mgmt.shadow.check s.nodeId = some v →
         Becomes (.commit dt h args) s (answers s dt [6, byteOf v.table, byteOf v.record, byteOf v.reason]))

/-- The first assessment that finds a commit PENDING, with no RESTART taken since (log 30), makes the shadow active
and begins the store write, which leaves no good copy in the store until it ends; the assessment is unsettled, so the
depth moves only to the fallback; a changed monitor node makes the next sample a seeding one and a changed capacity
rescales a valid reserve; presence records are kept by node ID, and a new module is EXPECTED. A write in progress
counts as no good copy (log 6). That the restore-hold count is 0 also when the monitor is LOST and nothing is raised is
the model's choice (log 36). Each queued frame keeps its place, and its tie while its node is in the new roster. A census
is requested: an IDLE one queues its first round, awaits its slot, or in FAULT stands PENDING (log 21), and one under
way absorbs the request. Once RESTART has been taken in PENDING, no assessment makes the shadow active. -/
def Obligations.CommittedSwap : Prop :=
  (∀ (s : State) (dt : Nat), s.assess.timerAt ≤ s.now + dt → s.mgmt.commit = .pending → s.mgmt.restartArmed = true →
    ∃ t, exec (.assessment dt) s = .next t ∧ t.mgmt = s.mgmt ∧ t.roster = s.roster) ∧
  ∀ (s : State) (dt : Nat), s.assess.timerAt ≤ s.now + dt → swapsAt s →
    ∃ t, exec (.assessment dt) s = .next t ∧
      t.mgmt = { s.mgmt with active := s.mgmt.shadow, commit := .writing, store := none } ∧
      t.assess.unsettled = false ∧
      (t.assess.critical = true →
        t.assess.depth = s.assess.depth) ∧
      (t.assess.critical = false →
        t.assess.depth = (if s.reserve.monitor = .lost ∧ s.assess.depth < s.assess.fallback then s.assess.fallback
          else s.assess.depth) ∧ t.assess.holdCount = 0) ∧
      let old := s.settings
      let new := s.mgmt.shadow.settings
      (if old.monitorNode = new.monitorNode then
        t.reserve.lastSeq = s.reserve.lastSeq ∧ t.reserve.lastArrival = s.reserve.lastArrival ∧
        t.reserve.seed = s.reserve.seed
      else t.reserve.lastSeq = none ∧ t.reserve.lastArrival = none ∧ t.reserve.seed = true) ∧
      (¬(new.vFull ≠ 0 ∧ s.reserve.monitor = .fresh ∧ new.vFull ≤ s.reserve.vf ∧ -(new.tail : Int) ≤ s.reserve.cur ∧
          s.reserve.cur ≤ 0 ∧ new.fullHold ≤ s.reserve.fullHold + 1) →
        t.reserve.valid = s.reserve.valid ∧
        (s.reserve.valid = true → old.capacity ≠ new.capacity →
          t.reserve.reserve = s.reserve.reserve * 1000 / old.cMas * new.cMas / 1000 ∧ t.reserve.residue = 0) ∧
        (old.capacity = new.capacity →
          t.reserve.reserve = s.reserve.reserve ∧ t.reserve.residue = s.reserve.residue)) ∧
      t.roster.presence = s.mgmt.shadow.rosterNodes.map (fun n => (s.record n).getD (freshRecord n)) ∧
      t.load.forward = s.load.forward.map (fun e => { e with tie := tieAfterSwap s e.tie }) ∧
      s.load.engine.map (fun e => { e with tie := tieAfterSwap s e.tie }) <+: t.load.engine ∧
      if s.roster.census = .idle then
        if s.load.port.state = .fault then
          t.roster = { s.roster with presence := t.roster.presence, census := .pending } ∧
          t.load.awaitCensus = s.load.awaitCensus
        else if s.load.engine.length < 8 then
          t.roster = { s.roster with
            presence := t.roster.presence, census := .running, round := 1, answered := [], unlisted := false } ∧
          s.load.engine.map (fun e => { e with tie := tieAfterSwap s e.tie }) ++ [queuedAs s (.census []) .census]
            <+: t.load.engine
        else
          t.roster = { s.roster with presence := t.roster.presence, census := .pending } ∧ t.load.awaitCensus = true
      else
        t.roster = { s.roster with presence := t.roster.presence } ∧ t.load.awaitCensus = s.load.awaitCensus

namespace Sys2Proof.Claims

/-- The channel lies in the shed zone of the shadow tables at the present depth (R51). -/
def zoneAfterSwap (s : State) (c : Channel) : Bool :=
  s.chans[c].managed && decide (1 ≤ s.mgmt.shadow.channels[c].tier ∧ s.mgmt.shadow.channels[c].tier ≤ s.assess.depth)

/-- The off-since time plus the shadow's minimum off time, where there is one (R65, R103). -/
def readyAfterSwap (s : State) (c : Channel) : Option Nat :=
  s.chans[c].offSince.map fun off => off + 1000 * s.mgmt.shadow.channels[c].minOff

/-- The command of a resume owed at `now'`: the intent, or SWITCH OFF before the minimum off time has passed (R92). -/
def resumeAt (s : State) (now' : Nat) (c : Channel) : EngBody :=
  if (readyAfterSwap s c).getD 0 ≤ now' then commandOf s c else .switchOff c

/-- How an override entry stands after a swap: a changed minimum off time moves its switch-on deadline, and ends it
once the new time has passed (R65). -/
def deadlineAfterSwap (s : State) (now' : Nat) (o : Override) : Override :=
  if o.deadline.isSome ∧ s.mgmt.shadow.channels[o.ch].minOff ≠ (s.cfg o.ch).minOff then
    { o with deadline := if (readyAfterSwap s o.ch).getD 0 ≤ now' then none else readyAfterSwap s o.ch }
  else o

end Sys2Proof.Claims

/-- What a swap makes of each channel, in an assessment that does not raise the depth. A new owner makes a managed
channel UNKNOWN with its fields absent, unreachable when the new owner is ABSENT. Otherwise an OVERRIDDEN channel of a
new tier 0 is LIVE and its entry free, and any other keeps its entry with its deadline moved (log 38); a SHEDDING
channel outside the new shed zone leaves its programme and the list, LIVE, or RESTORING with a resume queued when it
had asked the appliance to stop, or LIVE unsent when that resume would be SWITCH OFF for tier 0; a BARRED one outside
it is LIVE with intent OFF; a LIVE one inside it is SHEDDING when on and BARRED when off. The others keep their state,
but for a SHED one that the swap's pick takes. A RELEASED channel of a new owner keeps its fields, its unreachable
mark set exactly when the new owner is ABSENT (log 16). A moved deadline that has passed queues the switch-on, but
queues nothing with intent OFF or absent (log 12). -/
def Obligations.SwapReconcilesChannels : Prop :=
  ∀ (s : State) (dt : Nat) (c : Channel), s.assess.timerAt ≤ s.now + dt → swapsAt s → ChannelsAgree s.toPart →
    (s.reserve.monitor = .lost → s.assess.fallback ≤ s.assess.depth) →
    ∃ t, exec (.assessment dt) s = .next t ∧
      let r := s.chans[c]
      let tier' := s.mgmt.shadow.channels[c].tier
      let body := resumeAt s (s.now + dt) c
      let left : Prop := t.ctxs[c] = none ∧ c ∉ t.seq.list
      let absent : Bool := t.roster.presence.any fun x =>
        decide (some x.node = s.mgmt.shadow.owner c) && x.state == .absent
      if s.mgmt.shadow.owner c ≠ s.owner c then
        if r.managed then
          t.chans[c] = { state := .unknown, intent := none, level := none, current := none, status := none,
                         confirmed := false, managed := true, offSince := none, unreachable := absent,
                         terminal := none, inFlight := false, resend := false } ∧
          left ∧ ∀ i : Fin 4, t.overrides[i].map Override.ch ≠ some c
        else r.state = .released → t.chans[c] = { r with unreachable := absent, resend := false }
      else
        match r.state with
        | .overridden => r.managed = true →
          if tier' = 0 then t.chans[c].state = .live ∧ ∀ i : Fin 4, t.overrides[i].map Override.ch ≠ some c
          else
            t.chans[c].state = .overridden ∧
            ∀ (i : Fin 4) (o : Override), s.overrides[i] = some o → o.ch = c →
              t.overrides[i] = some (deadlineAfterSwap s (s.now + dt) o) ∧
              (o.deadline.isSome = true → deadlineAfterSwap s (s.now + dt) o ≠ o →
                (readyAfterSwap s c).getD 0 ≤ s.now + dt → commandOf s c ≠ .switchOff c →
                t.chans[c].offSince = none ∧ waitsAs t (commandOf s c) .boostOn) ∧
              (commandOf s c = .switchOff c → t.chans[c].offSince = r.offSince ∧
                ∀ b, b.channel = some c → waitsAs t b .boostOn → waitsAs s b .boostOn)
        | .shedding => r.managed = true →
          if zoneAfterSwap s c then t.chans[c].state = .shedding ∧ t.ctxs[c] = s.ctxs[c]
          else if (s.ctxs[c].any Context.requestSent) = false then t.chans[c].state = .live ∧ left
          else if body = .switchOff c ∧ tier' = 0 then
            t.chans[c].state = .live ∧ t.chans[c].confirmed = false ∧ left
          else
            t.chans[c].state = .restoring ∧ left ∧ waitsAs t body .resume ∧
            t.chans[c].offSince = if body = .switchOff c then r.offSince else none
        | .barred => r.managed = true →
          if zoneAfterSwap s c then t.chans[c].state = .barred
          else t.chans[c].state = .live ∧ t.chans[c].intent = some .off ∧ t.chans[c].offSince = r.offSince
        | .live => r.managed = true →
          if zoneAfterSwap s c then
            if s.isOn c then t.chans[c].state = .shedding ∧ t.ctxs[c].isSome = true ∧ c ∈ t.seq.list
            else t.chans[c].state = .barred ∧ t.chans[c].offSince = some (r.offSince.getD (s.now + dt))
          else t.chans[c].state = .live
        | .shed => t.chans[c].state = .shed ∨ t.chans[c].state = .restoring ∨ t.chans[c].state = .live
        | .unknown | .restoring | .released => t.chans[c].state = r.state

/-- RELEASE n makes every managed channel n..47 RELEASED and unmanaged, with its programme, its place on the shed list
and its override entry gone and its other fields kept; RETAIN n makes every RELEASED channel n..47 managed and
UNKNOWN, with its fields absent and its marks clear but the unreachable mark. No other channel changes. -/
def Obligations.ReleaseAndRetain : Prop :=
  ∀ (s : State) (dt : Nat) (h : Head) (n : Byte), PanelTakes s h →
    (47 < n.toNat →
      Becomes (.release dt h [n]) s (answers s dt [5]) ∧ Becomes (.retain dt h [n]) s (answers s dt [5])) ∧
    (n.toNat ≤ 47 →
      (∃ t, exec (.release dt h [n]) s = .next t ∧ t.panel.answer = .data [0] ∧
        ∀ c : Channel,
          if n.toNat ≤ c.val ∧ s.chans[c].managed = true then
            t.chans[c] = { s.chans[c] with state := .released, managed := false } ∧ t.ctxs[c] = none ∧
            c ∉ t.seq.list ∧ ∀ i : Fin 4, t.overrides[i].map Override.ch ≠ some c
          else t.chans[c] = s.chans[c] ∧ t.ctxs[c] = s.ctxs[c] ∧ (c ∈ t.seq.list ↔ c ∈ s.seq.list)) ∧
      ∃ t, exec (.retain dt h [n]) s = .next t ∧ t.panel.answer = .data [0] ∧
        t.seq = s.seq ∧ t.ctxs = s.ctxs ∧ t.overrides = s.overrides ∧ t.panel.notices = s.panel.notices ∧
        t.load = s.load ∧ ∀ c : Channel, t.chans[c] =
          if n.toNat ≤ c.val ∧ s.chans[c].state = .released then
            { state := .unknown, intent := none, level := none, current := none, status := none, confirmed := false,
              managed := true, offSince := none, unreachable := s.chans[c].unreachable, terminal := none,
              inFlight := false, resend := false }
          else s.chans[c])

/-- SET_RESERVE sets the reserve to its clamped per-mille of the active capacity with no residue, and makes it valid;
the answer is CLAMPED above 1000. CENSUS requests a census and is answered OK in every census state. DISCARD copies
the active tables into the shadow, BUSY in PENDING; RESTART arranges the management reset, BUSY in WRITING; a frame
without data or with an unknown command code, and a command with an argument it does not have, is a BAD_REQUEST and
changes nothing. The census round enters the queue in every port state but FAULT, where the census stays PENDING
(log 21). -/
def Obligations.SmallManagementCommands : Prop :=
  (∀ (s : State) (dt : Nat) (h : Head), PanelTakes s h →
     (∀ hi lo : Byte,
       Becomes (.setReserve dt h [hi, lo]) s (Part.giveData
         { later s dt with reserve := { s.reserve with
           reserve := min (256 * hi.toNat + lo.toNat) 1000 * s.settings.cMas / 1000, residue := 0, valid := true } }
         [if 1000 < 256 * hi.toNat + lo.toNat then 1 else 0])) ∧
     (s.roster.census ≠ .idle → Becomes (.census dt h []) s (answers s dt [0])) ∧
     (s.roster.census = .idle → s.load.port.state = .fault →
       Becomes (.census dt h []) s (Part.giveData
         { later s dt with roster := { s.roster with census := .pending } } [0])) ∧
     (s.roster.census = .idle → s.load.port.state ≠ .fault → s.load.engine.length < 8 →
       Becomes (.census dt h []) s (Part.giveData
         { later s dt with
           roster := { s.roster with census := .running, round := 1, answered := [], unlisted := false }
           load := { s.load with
             awaitCensus := false
             engine := s.load.engine ++ [queuedAs s (.census []) .census] } } [0]))) ∧
  (∀ (s : State) (dt : Nat) (h : Head), PanelTakes s h →
     Becomes (.discard dt h []) s
       (if s.mgmt.commit = .pending then answers s dt [2]
       else Part.giveData { later s dt with mgmt := { s.mgmt with shadow := s.mgmt.active } } [0]) ∧
     Becomes (.restart dt h []) s
       (if s.mgmt.commit = .writing then answers s dt [2]
       else Part.giveData { later s dt with mgmt := { s.mgmt with restartArmed := true } } [0]) ∧
     (∀ data : List Byte, dataFits h data → noCommand data → Becomes (.mgmtBadRequest dt h data) s (answers s dt [3])) ∧
     ∀ b : Byte, Becomes (.discard dt h [b]) s (answers s dt [3]) ∧ Becomes (.restart dt h [b]) s (answers s dt [3]) ∧
       Becomes (.status dt h [b]) s (answers s dt [3]) ∧ Becomes (.census dt h [b]) s (answers s dt [3]))

/-! ## 10: resets and start-up -/

/-- What the hardware reset leaves: every register at the value its chapter states, the straps sampled, every queue
empty, the tables at the built-in defaults until the store has been read, and the store as it was. What either reset
leaves of the channels, the contexts, the Sequencer, the ports and the queues; and what the management reset keeps:
the Reserve Unit whole, and of the Assessment Unit all but the three counts, which are 0, and the unsettled mark,
which is set. SILENT after a reset is told from SILENT after a violation by a start-up mark, the form of R148 in this
model. -/
def Obligations.ResetValues : Prop :=
  (∀ (s : State) (dt : Nat) (node : BitVec 4) (fall : BitVec 3),
     ∃ t, exec (.hardwareReset dt node fall) s = .next t ∧ t.nodeId.toNat = 8 + node.toNat ∧
       t.reserve = { reserve := 0, residue := 0, valid := false, vf := 0, cur := 0, seed := true, lastSeq := none,
                     lastArrival := none, monitor := .awaiting, staleAt := none, lostAt := some (t.now + 30000), critCount := 0,
                     fullHold := 0, runtime := none } ∧
       t.assess = { timerAt := t.now + 1000, number := 0, depth := 0, vGuard := .released, vGuardCount := 0, rGuard := .released,
                    critical := false, releaseCount := 0, holdCount := 0, unsettled := true, escalation := 0,
                    restore := 0, fallback := fall.toNat } ∧
       t.alerts = { critical := false, monitorLost := false, moduleAbsent := false, portFault := false,
                    defaults := false } ∧
       t.mgmt = { active := Tables.default, shadow := Tables.default, commit := .idle, store := s.mgmt.store,
                  reading := true, restartArmed := false }) ∧
  (∀ (s : State) (dt : Nat) (node : BitVec 4) (fall : BitVec 3) (i : Instr),
     i = .hardwareReset dt node fall ∨ (i = .managementReset dt ∧ s.mgmt.restartArmed = true) →
     ∃ t, exec i s = .next t ∧
       (∀ c : Channel, t.ctxs[c] = none ∧
         t.chans[c] = { state := .unknown, intent := none, level := none, current := none, status := none,
                        confirmed := false, managed := true, offSince := none, unreachable := false, terminal := none,
                        inFlight := false, resend := false }) ∧
       (∀ k : Fin 4, t.overrides[k] = none) ∧
       t.seq = { list := [], state := .idle, restoring := none, spacingAt := none } ∧
       (∀ p, t.toPart.core p = { state := .silent, startUp := true, position := .waiting }) ∧
       t.load.forward = [] ∧ t.load.engine = [] ∧ t.load.awaiting = [] ∧ t.load.awaitOpenset = false ∧
       t.load.awaitCensus = false ∧ t.load.engineCount = 0 ∧ t.load.sending = none ∧ t.panel.sending = none ∧
       t.panel.forward = [] ∧ t.panel.notices = [] ∧ t.panel.overflow = false ∧
       t.roster.census = .pending ∧ t.roster.round = 0 ∧ t.roster.answered = [] ∧ t.roster.unlisted = false ∧
       t.roster.opening = .idle ∧ t.roster.openingSet = [] ∧ t.roster.further = [] ∧
       t.alerts.moduleAbsent = false ∧ t.alerts.portFault = false ∧ t.mgmt.commit = .idle ∧ t.mgmt.reading = true ∧
       t.mgmt.store = s.mgmt.store ∧
       (i = .managementReset dt →
         t.reserve = s.reserve ∧
         t.assess = { s.assess with vGuardCount := 0, releaseCount := 0, holdCount := 0, unsettled := true } ∧
         t.alerts.critical = s.alerts.critical ∧ t.alerts.monitorLost = s.alerts.monitorLost ∧ t.nodeId = s.nodeId))

/-- The end of the store read: a copy whose check word is right and whose roster does not list the part's own node ID
becomes active and shadow, and DEFAULTS_IN_USE is cleared; otherwise the built-in defaults do, and it is raised. Every
listed module is EXPECTED, and the Reserve Unit takes a changed monitor node and capacity as at a swap. The store
write ends: IDLE, with a COMMIT notice; written and checked, the store holds the active tables with their check word
and DEFAULTS_IN_USE is cleared; failed, it holds no good copy and the alert stays. A failed write leaves no good copy
(log 6). -/
def Obligations.StoreReadAndWriteEnd : Prop :=
  (∀ (s : State) (dt : Nat), s.mgmt.reading = true →
     ∃ t, exec (.storeReadEnd dt) s = .next t ∧
       let good (k : StoreCopy) : Prop := crc16 k.image = k.check ∧ s.nodeId ∉ (Tables.ofBytes k.image).rosterNodes
       (∀ k, s.mgmt.store = some k → good k → t.mgmt.active = Tables.ofBytes k.image ∧ t.alerts.defaults = false) ∧
       (s.mgmt.store = none ∨ (∃ k, s.mgmt.store = some k ∧ ¬good k) →
         t.mgmt.active = Tables.default ∧ t.alerts.defaults = true) ∧
       t.mgmt.shadow = t.mgmt.active ∧ t.mgmt.reading = false ∧ t.mgmt.commit = s.mgmt.commit ∧
       t.mgmt.store = s.mgmt.store ∧
       t.roster.presence = t.mgmt.active.rosterNodes.map freshRecord ∧
       (s.settings.monitorNode = t.settings.monitorNode → s.settings.capacity = t.settings.capacity →
         t.reserve = s.reserve) ∧
       (s.settings.monitorNode ≠ t.settings.monitorNode →
         t.reserve.lastSeq = none ∧ t.reserve.lastArrival = none ∧ t.reserve.seed = true) ∧
       (s.settings.capacity ≠ t.settings.capacity → s.reserve.valid = true →
         t.reserve.reserve = s.reserve.reserve * 1000 / s.settings.cMas * t.settings.cMas / 1000 ∧
         t.reserve.residue = 0) ∧
       t.assess = s.assess ∧ t.chans = s.chans ∧ t.load = s.load ∧ t.panel = s.panel ∧ t.seq = s.seq) ∧
  (∀ (s : State) (dt : Nat) (good : Bool), s.mgmt.commit = .writing →
     Becomes (.storeWriteEnd dt good) s
       (Part.notify { later s dt with
         mgmt := { s.mgmt with
           commit := .idle
           store := if good then some { image := s.mgmt.active.encode, check := crc16 s.mgmt.active.encode } else none }
         alerts := { s.alerts with defaults := if good then false else s.alerts.defaults } }
         (.commit (if good then 0 else 1))))
end

