-- ==== Sys2Proof/Laws/State.lean ====
section
/-! SUPPORT. The fields of a record update, one lemma a field: no later proof unfolds these operations. -/

namespace Sys2Proof.Machine.Part

variable (s : Part)

/-! ### advance -/

@[simp] theorem advance_now (dt : Nat) : (s.advance dt).now = s.now + dt := rfl
@[simp] theorem advance_nodeId (dt : Nat) : (s.advance dt).nodeId = s.nodeId := rfl
@[simp] theorem advance_reserve (dt : Nat) : (s.advance dt).reserve = s.reserve := rfl
@[simp] theorem advance_assess (dt : Nat) : (s.advance dt).assess = s.assess := rfl
@[simp] theorem advance_chans (dt : Nat) : (s.advance dt).chans = s.chans := rfl
@[simp] theorem advance_overrides (dt : Nat) : (s.advance dt).overrides = s.overrides := rfl
@[simp] theorem advance_ctxs (dt : Nat) : (s.advance dt).ctxs = s.ctxs := rfl
@[simp] theorem advance_ctxSerial (dt : Nat) : (s.advance dt).ctxSerial = s.ctxSerial := rfl
@[simp] theorem advance_seq (dt : Nat) : (s.advance dt).seq = s.seq := rfl
@[simp] theorem advance_roster (dt : Nat) : (s.advance dt).roster = s.roster := rfl
@[simp] theorem advance_load (dt : Nat) : (s.advance dt).load = s.load := rfl
@[simp] theorem advance_panel (dt : Nat) : (s.advance dt).panel = s.panel := rfl
@[simp] theorem advance_mgmt (dt : Nat) : (s.advance dt).mgmt = s.mgmt := rfl
@[simp] theorem advance_alerts (dt : Nat) : (s.advance dt).alerts = s.alerts := rfl

/-! ### modChan -/

@[simp] theorem modChan_now (c : Channel) (f : ChanRec → ChanRec) : (s.modChan c f).now = s.now := rfl
@[simp] theorem modChan_nodeId (c : Channel) (f : ChanRec → ChanRec) : (s.modChan c f).nodeId = s.nodeId := rfl
@[simp] theorem modChan_reserve (c : Channel) (f : ChanRec → ChanRec) : (s.modChan c f).reserve = s.reserve := rfl
@[simp] theorem modChan_assess (c : Channel) (f : ChanRec → ChanRec) : (s.modChan c f).assess = s.assess := rfl
@[simp] theorem modChan_chans (c : Channel) (f : ChanRec → ChanRec) :
    (s.modChan c f).chans = s.chans.set c (f s.chans[c]) := rfl
@[simp] theorem modChan_overrides (c : Channel) (f : ChanRec → ChanRec) : (s.modChan c f).overrides = s.overrides := rfl
@[simp] theorem modChan_ctxs (c : Channel) (f : ChanRec → ChanRec) : (s.modChan c f).ctxs = s.ctxs := rfl
@[simp] theorem modChan_ctxSerial (c : Channel) (f : ChanRec → ChanRec) : (s.modChan c f).ctxSerial = s.ctxSerial := rfl
@[simp] theorem modChan_seq (c : Channel) (f : ChanRec → ChanRec) : (s.modChan c f).seq = s.seq := rfl
@[simp] theorem modChan_roster (c : Channel) (f : ChanRec → ChanRec) : (s.modChan c f).roster = s.roster := rfl
@[simp] theorem modChan_load (c : Channel) (f : ChanRec → ChanRec) : (s.modChan c f).load = s.load := rfl
@[simp] theorem modChan_panel (c : Channel) (f : ChanRec → ChanRec) : (s.modChan c f).panel = s.panel := rfl
@[simp] theorem modChan_mgmt (c : Channel) (f : ChanRec → ChanRec) : (s.modChan c f).mgmt = s.mgmt := rfl
@[simp] theorem modChan_alerts (c : Channel) (f : ChanRec → ChanRec) : (s.modChan c f).alerts = s.alerts := rfl

/-! ### setCtx -/

@[simp] theorem setCtx_now (c : Channel) (x : Option Context) : (s.setCtx c x).now = s.now := rfl
@[simp] theorem setCtx_nodeId (c : Channel) (x : Option Context) : (s.setCtx c x).nodeId = s.nodeId := rfl
@[simp] theorem setCtx_reserve (c : Channel) (x : Option Context) : (s.setCtx c x).reserve = s.reserve := rfl
@[simp] theorem setCtx_assess (c : Channel) (x : Option Context) : (s.setCtx c x).assess = s.assess := rfl
@[simp] theorem setCtx_chans (c : Channel) (x : Option Context) : (s.setCtx c x).chans = s.chans := rfl
@[simp] theorem setCtx_overrides (c : Channel) (x : Option Context) : (s.setCtx c x).overrides = s.overrides := rfl
@[simp] theorem setCtx_ctxs (c : Channel) (x : Option Context) : (s.setCtx c x).ctxs = s.ctxs.set c x := rfl
@[simp] theorem setCtx_ctxSerial (c : Channel) (x : Option Context) : (s.setCtx c x).ctxSerial = s.ctxSerial := rfl
@[simp] theorem setCtx_seq (c : Channel) (x : Option Context) : (s.setCtx c x).seq = s.seq := rfl
@[simp] theorem setCtx_roster (c : Channel) (x : Option Context) : (s.setCtx c x).roster = s.roster := rfl
@[simp] theorem setCtx_load (c : Channel) (x : Option Context) : (s.setCtx c x).load = s.load := rfl
@[simp] theorem setCtx_panel (c : Channel) (x : Option Context) : (s.setCtx c x).panel = s.panel := rfl
@[simp] theorem setCtx_mgmt (c : Channel) (x : Option Context) : (s.setCtx c x).mgmt = s.mgmt := rfl
@[simp] theorem setCtx_alerts (c : Channel) (x : Option Context) : (s.setCtx c x).alerts = s.alerts := rfl

/-! ### abort -/

@[simp] theorem abort_now (c : Channel) : (s.abort c).now = s.now := rfl
@[simp] theorem abort_nodeId (c : Channel) : (s.abort c).nodeId = s.nodeId := rfl
@[simp] theorem abort_reserve (c : Channel) : (s.abort c).reserve = s.reserve := rfl
@[simp] theorem abort_assess (c : Channel) : (s.abort c).assess = s.assess := rfl
@[simp] theorem abort_chans (c : Channel) : (s.abort c).chans = s.chans := rfl
@[simp] theorem abort_overrides (c : Channel) : (s.abort c).overrides = s.overrides := rfl
@[simp] theorem abort_ctxs (c : Channel) : (s.abort c).ctxs = s.ctxs.set c none := rfl
@[simp] theorem abort_ctxSerial (c : Channel) : (s.abort c).ctxSerial = s.ctxSerial := rfl
@[simp] theorem abort_seq (c : Channel) : (s.abort c).seq = s.seq := rfl
@[simp] theorem abort_roster (c : Channel) : (s.abort c).roster = s.roster := rfl
@[simp] theorem abort_load (c : Channel) : (s.abort c).load = s.load := rfl
@[simp] theorem abort_panel (c : Channel) : (s.abort c).panel = s.panel := rfl
@[simp] theorem abort_mgmt (c : Channel) : (s.abort c).mgmt = s.mgmt := rfl
@[simp] theorem abort_alerts (c : Channel) : (s.abort c).alerts = s.alerts := rfl

/-! ### push -/

@[simp] theorem push_now (c : Channel) : (s.push c).now = s.now := rfl
@[simp] theorem push_nodeId (c : Channel) : (s.push c).nodeId = s.nodeId := rfl
@[simp] theorem push_reserve (c : Channel) : (s.push c).reserve = s.reserve := rfl
@[simp] theorem push_assess (c : Channel) : (s.push c).assess = s.assess := rfl
@[simp] theorem push_chans (c : Channel) : (s.push c).chans = s.chans := rfl
@[simp] theorem push_overrides (c : Channel) : (s.push c).overrides = s.overrides := rfl
@[simp] theorem push_ctxs (c : Channel) : (s.push c).ctxs = s.ctxs := rfl
@[simp] theorem push_ctxSerial (c : Channel) : (s.push c).ctxSerial = s.ctxSerial := rfl
@[simp] theorem push_seq (c : Channel) : (s.push c).seq = { s.seq with list := c :: s.seq.list } := rfl
@[simp] theorem push_roster (c : Channel) : (s.push c).roster = s.roster := rfl
@[simp] theorem push_load (c : Channel) : (s.push c).load = s.load := rfl
@[simp] theorem push_panel (c : Channel) : (s.push c).panel = s.panel := rfl
@[simp] theorem push_mgmt (c : Channel) : (s.push c).mgmt = s.mgmt := rfl
@[simp] theorem push_alerts (c : Channel) : (s.push c).alerts = s.alerts := rfl

/-! ### unlist -/

@[simp] theorem unlist_now (c : Channel) : (s.unlist c).now = s.now := rfl
@[simp] theorem unlist_nodeId (c : Channel) : (s.unlist c).nodeId = s.nodeId := rfl
@[simp] theorem unlist_reserve (c : Channel) : (s.unlist c).reserve = s.reserve := rfl
@[simp] theorem unlist_assess (c : Channel) : (s.unlist c).assess = s.assess := rfl
@[simp] theorem unlist_chans (c : Channel) : (s.unlist c).chans = s.chans := rfl
@[simp] theorem unlist_overrides (c : Channel) : (s.unlist c).overrides = s.overrides := rfl
@[simp] theorem unlist_ctxs (c : Channel) : (s.unlist c).ctxs = s.ctxs := rfl
@[simp] theorem unlist_ctxSerial (c : Channel) : (s.unlist c).ctxSerial = s.ctxSerial := rfl
@[simp] theorem unlist_seq (c : Channel) : (s.unlist c).seq = { s.seq with list := s.seq.list.filter (· ≠ c) } := rfl
@[simp] theorem unlist_roster (c : Channel) : (s.unlist c).roster = s.roster := rfl
@[simp] theorem unlist_load (c : Channel) : (s.unlist c).load = s.load := rfl
@[simp] theorem unlist_panel (c : Channel) : (s.unlist c).panel = s.panel := rfl
@[simp] theorem unlist_mgmt (c : Channel) : (s.unlist c).mgmt = s.mgmt := rfl
@[simp] theorem unlist_alerts (c : Channel) : (s.unlist c).alerts = s.alerts := rfl

/-! ### startSpacing -/

@[simp] theorem startSpacing_now : (s.startSpacing).now = s.now := rfl
@[simp] theorem startSpacing_nodeId : (s.startSpacing).nodeId = s.nodeId := rfl
@[simp] theorem startSpacing_reserve : (s.startSpacing).reserve = s.reserve := rfl
@[simp] theorem startSpacing_assess : (s.startSpacing).assess = s.assess := rfl
@[simp] theorem startSpacing_chans : (s.startSpacing).chans = s.chans := rfl
@[simp] theorem startSpacing_overrides : (s.startSpacing).overrides = s.overrides := rfl
@[simp] theorem startSpacing_ctxs : (s.startSpacing).ctxs = s.ctxs := rfl
@[simp] theorem startSpacing_ctxSerial : (s.startSpacing).ctxSerial = s.ctxSerial := rfl
@[simp] theorem startSpacing_seq :
    (s.startSpacing).seq = { s.seq with restoring := none, state := .spacing, spacingAt := some (s.now + s.settings.restoreSpacing) } := rfl
@[simp] theorem startSpacing_roster : (s.startSpacing).roster = s.roster := rfl
@[simp] theorem startSpacing_load : (s.startSpacing).load = s.load := rfl
@[simp] theorem startSpacing_panel : (s.startSpacing).panel = s.panel := rfl
@[simp] theorem startSpacing_mgmt : (s.startSpacing).mgmt = s.mgmt := rfl
@[simp] theorem startSpacing_alerts : (s.startSpacing).alerts = s.alerts := rfl

/-! ### setOverride -/

@[simp] theorem setOverride_now (i : Fin 4) (o : Option Override) : (s.setOverride i o).now = s.now := rfl
@[simp] theorem setOverride_nodeId (i : Fin 4) (o : Option Override) : (s.setOverride i o).nodeId = s.nodeId := rfl
@[simp] theorem setOverride_reserve (i : Fin 4) (o : Option Override) : (s.setOverride i o).reserve = s.reserve := rfl
@[simp] theorem setOverride_assess (i : Fin 4) (o : Option Override) : (s.setOverride i o).assess = s.assess := rfl
@[simp] theorem setOverride_chans (i : Fin 4) (o : Option Override) : (s.setOverride i o).chans = s.chans := rfl
@[simp] theorem setOverride_overrides (i : Fin 4) (o : Option Override) :
    (s.setOverride i o).overrides = s.overrides.set i o := rfl
@[simp] theorem setOverride_ctxs (i : Fin 4) (o : Option Override) : (s.setOverride i o).ctxs = s.ctxs := rfl
@[simp] theorem setOverride_ctxSerial (i : Fin 4) (o : Option Override) :
    (s.setOverride i o).ctxSerial = s.ctxSerial := rfl
@[simp] theorem setOverride_seq (i : Fin 4) (o : Option Override) : (s.setOverride i o).seq = s.seq := rfl
@[simp] theorem setOverride_roster (i : Fin 4) (o : Option Override) : (s.setOverride i o).roster = s.roster := rfl
@[simp] theorem setOverride_load (i : Fin 4) (o : Option Override) : (s.setOverride i o).load = s.load := rfl
@[simp] theorem setOverride_panel (i : Fin 4) (o : Option Override) : (s.setOverride i o).panel = s.panel := rfl
@[simp] theorem setOverride_mgmt (i : Fin 4) (o : Option Override) : (s.setOverride i o).mgmt = s.mgmt := rfl
@[simp] theorem setOverride_alerts (i : Fin 4) (o : Option Override) : (s.setOverride i o).alerts = s.alerts := rfl

/-! ### freeOverrideOf -/

@[simp] theorem freeOverrideOf_now (c : Channel) : (s.freeOverrideOf c).now = s.now := rfl
@[simp] theorem freeOverrideOf_nodeId (c : Channel) : (s.freeOverrideOf c).nodeId = s.nodeId := rfl
@[simp] theorem freeOverrideOf_reserve (c : Channel) : (s.freeOverrideOf c).reserve = s.reserve := rfl
@[simp] theorem freeOverrideOf_assess (c : Channel) : (s.freeOverrideOf c).assess = s.assess := rfl
@[simp] theorem freeOverrideOf_chans (c : Channel) : (s.freeOverrideOf c).chans = s.chans := rfl
@[simp] theorem freeOverrideOf_overrides (c : Channel) :
    (s.freeOverrideOf c).overrides = s.overrides.map fun o => if o.map Override.ch = some c then none else o := rfl
@[simp] theorem freeOverrideOf_ctxs (c : Channel) : (s.freeOverrideOf c).ctxs = s.ctxs := rfl
@[simp] theorem freeOverrideOf_ctxSerial (c : Channel) : (s.freeOverrideOf c).ctxSerial = s.ctxSerial := rfl
@[simp] theorem freeOverrideOf_seq (c : Channel) : (s.freeOverrideOf c).seq = s.seq := rfl
@[simp] theorem freeOverrideOf_roster (c : Channel) : (s.freeOverrideOf c).roster = s.roster := rfl
@[simp] theorem freeOverrideOf_load (c : Channel) : (s.freeOverrideOf c).load = s.load := rfl
@[simp] theorem freeOverrideOf_panel (c : Channel) : (s.freeOverrideOf c).panel = s.panel := rfl
@[simp] theorem freeOverrideOf_mgmt (c : Channel) : (s.freeOverrideOf c).mgmt = s.mgmt := rfl
@[simp] theorem freeOverrideOf_alerts (c : Channel) : (s.freeOverrideOf c).alerts = s.alerts := rfl

/-! ### setHold -/

@[simp] theorem setHold_now (n : Nat) : (s.setHold n).now = s.now := rfl
@[simp] theorem setHold_nodeId (n : Nat) : (s.setHold n).nodeId = s.nodeId := rfl
@[simp] theorem setHold_reserve (n : Nat) : (s.setHold n).reserve = s.reserve := rfl
@[simp] theorem setHold_assess (n : Nat) : (s.setHold n).assess = { s.assess with holdCount := n } := rfl
@[simp] theorem setHold_chans (n : Nat) : (s.setHold n).chans = s.chans := rfl
@[simp] theorem setHold_overrides (n : Nat) : (s.setHold n).overrides = s.overrides := rfl
@[simp] theorem setHold_ctxs (n : Nat) : (s.setHold n).ctxs = s.ctxs := rfl
@[simp] theorem setHold_ctxSerial (n : Nat) : (s.setHold n).ctxSerial = s.ctxSerial := rfl
@[simp] theorem setHold_seq (n : Nat) : (s.setHold n).seq = s.seq := rfl
@[simp] theorem setHold_roster (n : Nat) : (s.setHold n).roster = s.roster := rfl
@[simp] theorem setHold_load (n : Nat) : (s.setHold n).load = s.load := rfl
@[simp] theorem setHold_panel (n : Nat) : (s.setHold n).panel = s.panel := rfl
@[simp] theorem setHold_mgmt (n : Nat) : (s.setHold n).mgmt = s.mgmt := rfl
@[simp] theorem setHold_alerts (n : Nat) : (s.setHold n).alerts = s.alerts := rfl

/-! ### setIntent -/

@[simp] theorem setIntent_now (c : Channel) (i : Intent) : (s.setIntent c i).now = s.now := rfl
@[simp] theorem setIntent_nodeId (c : Channel) (i : Intent) : (s.setIntent c i).nodeId = s.nodeId := rfl
@[simp] theorem setIntent_reserve (c : Channel) (i : Intent) : (s.setIntent c i).reserve = s.reserve := rfl
@[simp] theorem setIntent_assess (c : Channel) (i : Intent) : (s.setIntent c i).assess = s.assess := rfl
@[simp] theorem setIntent_chans (c : Channel) (i : Intent) :
    (s.setIntent c i).chans = s.chans.set c { s.chans[c] with intent := some i } := rfl
@[simp] theorem setIntent_overrides (c : Channel) (i : Intent) : (s.setIntent c i).overrides = s.overrides := rfl
@[simp] theorem setIntent_ctxs (c : Channel) (i : Intent) : (s.setIntent c i).ctxs = s.ctxs := rfl
@[simp] theorem setIntent_ctxSerial (c : Channel) (i : Intent) : (s.setIntent c i).ctxSerial = s.ctxSerial := rfl
@[simp] theorem setIntent_seq (c : Channel) (i : Intent) : (s.setIntent c i).seq = s.seq := rfl
@[simp] theorem setIntent_roster (c : Channel) (i : Intent) : (s.setIntent c i).roster = s.roster := rfl
@[simp] theorem setIntent_load (c : Channel) (i : Intent) : (s.setIntent c i).load = s.load := rfl
@[simp] theorem setIntent_panel (c : Channel) (i : Intent) : (s.setIntent c i).panel = s.panel := rfl
@[simp] theorem setIntent_mgmt (c : Channel) (i : Intent) : (s.setIntent c i).mgmt = s.mgmt := rfl
@[simp] theorem setIntent_alerts (c : Channel) (i : Intent) : (s.setIntent c i).alerts = s.alerts := rfl

/-! ### testPortFault -/

@[simp] theorem testPortFault_now : (s.testPortFault).now = s.now := rfl
@[simp] theorem testPortFault_nodeId : (s.testPortFault).nodeId = s.nodeId := rfl
@[simp] theorem testPortFault_reserve : (s.testPortFault).reserve = s.reserve := rfl
@[simp] theorem testPortFault_assess : (s.testPortFault).assess = s.assess := rfl
@[simp] theorem testPortFault_chans : (s.testPortFault).chans = s.chans := rfl
@[simp] theorem testPortFault_overrides : (s.testPortFault).overrides = s.overrides := rfl
@[simp] theorem testPortFault_ctxs : (s.testPortFault).ctxs = s.ctxs := rfl
@[simp] theorem testPortFault_ctxSerial : (s.testPortFault).ctxSerial = s.ctxSerial := rfl
@[simp] theorem testPortFault_seq : (s.testPortFault).seq = s.seq := rfl
@[simp] theorem testPortFault_roster : (s.testPortFault).roster = s.roster := rfl
@[simp] theorem testPortFault_load : (s.testPortFault).load = s.load := rfl
@[simp] theorem testPortFault_panel : (s.testPortFault).panel = s.panel := rfl
@[simp] theorem testPortFault_mgmt : (s.testPortFault).mgmt = s.mgmt := rfl

/-! ### testModuleAbsent -/

@[simp] theorem testModuleAbsent_now : (s.testModuleAbsent).now = s.now := rfl
@[simp] theorem testModuleAbsent_nodeId : (s.testModuleAbsent).nodeId = s.nodeId := rfl
@[simp] theorem testModuleAbsent_reserve : (s.testModuleAbsent).reserve = s.reserve := rfl
@[simp] theorem testModuleAbsent_assess : (s.testModuleAbsent).assess = s.assess := rfl
@[simp] theorem testModuleAbsent_chans : (s.testModuleAbsent).chans = s.chans := rfl
@[simp] theorem testModuleAbsent_overrides : (s.testModuleAbsent).overrides = s.overrides := rfl
@[simp] theorem testModuleAbsent_ctxs : (s.testModuleAbsent).ctxs = s.ctxs := rfl
@[simp] theorem testModuleAbsent_ctxSerial : (s.testModuleAbsent).ctxSerial = s.ctxSerial := rfl
@[simp] theorem testModuleAbsent_seq : (s.testModuleAbsent).seq = s.seq := rfl
@[simp] theorem testModuleAbsent_roster : (s.testModuleAbsent).roster = s.roster := rfl
@[simp] theorem testModuleAbsent_load : (s.testModuleAbsent).load = s.load := rfl
@[simp] theorem testModuleAbsent_panel : (s.testModuleAbsent).panel = s.panel := rfl
@[simp] theorem testModuleAbsent_mgmt : (s.testModuleAbsent).mgmt = s.mgmt := rfl
@[simp] theorem testModuleAbsent_alerts :
    (s.testModuleAbsent).alerts = { s.alerts with moduleAbsent := s.roster.presence.any fun r => r.state == .absent } := rfl

/-! ### modRecord -/

@[simp] theorem modRecord_now (n : NodeId) (f : PresenceRec → PresenceRec) : (s.modRecord n f).now = s.now := rfl
@[simp] theorem modRecord_nodeId (n : NodeId) (f : PresenceRec → PresenceRec) :
    (s.modRecord n f).nodeId = s.nodeId := rfl
@[simp] theorem modRecord_reserve (n : NodeId) (f : PresenceRec → PresenceRec) :
    (s.modRecord n f).reserve = s.reserve := rfl
@[simp] theorem modRecord_assess (n : NodeId) (f : PresenceRec → PresenceRec) :
    (s.modRecord n f).assess = s.assess := rfl
@[simp] theorem modRecord_chans (n : NodeId) (f : PresenceRec → PresenceRec) : (s.modRecord n f).chans = s.chans := rfl
@[simp] theorem modRecord_overrides (n : NodeId) (f : PresenceRec → PresenceRec) :
    (s.modRecord n f).overrides = s.overrides := rfl
@[simp] theorem modRecord_ctxs (n : NodeId) (f : PresenceRec → PresenceRec) : (s.modRecord n f).ctxs = s.ctxs := rfl
@[simp] theorem modRecord_ctxSerial (n : NodeId) (f : PresenceRec → PresenceRec) :
    (s.modRecord n f).ctxSerial = s.ctxSerial := rfl
@[simp] theorem modRecord_seq (n : NodeId) (f : PresenceRec → PresenceRec) : (s.modRecord n f).seq = s.seq := rfl
@[simp] theorem modRecord_roster (n : NodeId) (f : PresenceRec → PresenceRec) :
    (s.modRecord n f).roster = { s.roster with presence := Part.modFirst n f s.roster.presence } := rfl
@[simp] theorem modRecord_load (n : NodeId) (f : PresenceRec → PresenceRec) : (s.modRecord n f).load = s.load := rfl
@[simp] theorem modRecord_panel (n : NodeId) (f : PresenceRec → PresenceRec) : (s.modRecord n f).panel = s.panel := rfl
@[simp] theorem modRecord_mgmt (n : NodeId) (f : PresenceRec → PresenceRec) : (s.modRecord n f).mgmt = s.mgmt := rfl
@[simp] theorem modRecord_alerts (n : NodeId) (f : PresenceRec → PresenceRec) :
    (s.modRecord n f).alerts = s.alerts := rfl

/-! ### enqueue -/

@[simp] theorem enqueue_now (r : Request) : (s.enqueue r).now = s.now := rfl
@[simp] theorem enqueue_nodeId (r : Request) : (s.enqueue r).nodeId = s.nodeId := rfl
@[simp] theorem enqueue_reserve (r : Request) : (s.enqueue r).reserve = s.reserve := rfl
@[simp] theorem enqueue_assess (r : Request) : (s.enqueue r).assess = s.assess := rfl
@[simp] theorem enqueue_chans (r : Request) : (s.enqueue r).chans = s.chans := rfl
@[simp] theorem enqueue_overrides (r : Request) : (s.enqueue r).overrides = s.overrides := rfl
@[simp] theorem enqueue_ctxs (r : Request) : (s.enqueue r).ctxs = s.ctxs := rfl
@[simp] theorem enqueue_ctxSerial (r : Request) : (s.enqueue r).ctxSerial = s.ctxSerial := rfl
@[simp] theorem enqueue_seq (r : Request) : (s.enqueue r).seq = s.seq := rfl
@[simp] theorem enqueue_roster (r : Request) : (s.enqueue r).roster = s.roster := rfl
@[simp] theorem enqueue_panel (r : Request) : (s.enqueue r).panel = s.panel := rfl
@[simp] theorem enqueue_mgmt (r : Request) : (s.enqueue r).mgmt = s.mgmt := rfl
@[simp] theorem enqueue_alerts (r : Request) : (s.enqueue r).alerts = s.alerts := rfl

/-! ### placeForward -/

@[simp] theorem placeForward_now (f : Frame) : (s.placeForward f).now = s.now := rfl
@[simp] theorem placeForward_nodeId (f : Frame) : (s.placeForward f).nodeId = s.nodeId := rfl
@[simp] theorem placeForward_reserve (f : Frame) : (s.placeForward f).reserve = s.reserve := rfl
@[simp] theorem placeForward_assess (f : Frame) : (s.placeForward f).assess = s.assess := rfl
@[simp] theorem placeForward_chans (f : Frame) : (s.placeForward f).chans = s.chans := rfl
@[simp] theorem placeForward_overrides (f : Frame) : (s.placeForward f).overrides = s.overrides := rfl
@[simp] theorem placeForward_ctxs (f : Frame) : (s.placeForward f).ctxs = s.ctxs := rfl
@[simp] theorem placeForward_ctxSerial (f : Frame) : (s.placeForward f).ctxSerial = s.ctxSerial := rfl
@[simp] theorem placeForward_seq (f : Frame) : (s.placeForward f).seq = s.seq := rfl
@[simp] theorem placeForward_roster (f : Frame) : (s.placeForward f).roster = s.roster := rfl
@[simp] theorem placeForward_panel (f : Frame) : (s.placeForward f).panel = s.panel := rfl
@[simp] theorem placeForward_mgmt (f : Frame) : (s.placeForward f).mgmt = s.mgmt := rfl
@[simp] theorem placeForward_alerts (f : Frame) : (s.placeForward f).alerts = s.alerts := rfl

/-! ### loadFree -/

@[simp] theorem loadFree_now : (s.loadFree).now = s.now := rfl
@[simp] theorem loadFree_nodeId : (s.loadFree).nodeId = s.nodeId := rfl
@[simp] theorem loadFree_reserve : (s.loadFree).reserve = s.reserve := rfl
@[simp] theorem loadFree_assess : (s.loadFree).assess = s.assess := rfl
@[simp] theorem loadFree_chans : (s.loadFree).chans = s.chans := rfl
@[simp] theorem loadFree_overrides : (s.loadFree).overrides = s.overrides := rfl
@[simp] theorem loadFree_ctxs : (s.loadFree).ctxs = s.ctxs := rfl
@[simp] theorem loadFree_ctxSerial : (s.loadFree).ctxSerial = s.ctxSerial := rfl
@[simp] theorem loadFree_seq : (s.loadFree).seq = s.seq := rfl
@[simp] theorem loadFree_roster : (s.loadFree).roster = s.roster := rfl
@[simp] theorem loadFree_panel : (s.loadFree).panel = s.panel := rfl
@[simp] theorem loadFree_mgmt : (s.loadFree).mgmt = s.mgmt := rfl
@[simp] theorem loadFree_alerts : (s.loadFree).alerts = s.alerts := rfl

/-! ### loadFrameEnd -/

@[simp] theorem loadFrameEnd_now : (s.loadFrameEnd).now = s.now := rfl
@[simp] theorem loadFrameEnd_nodeId : (s.loadFrameEnd).nodeId = s.nodeId := rfl
@[simp] theorem loadFrameEnd_reserve : (s.loadFrameEnd).reserve = s.reserve := rfl
@[simp] theorem loadFrameEnd_assess : (s.loadFrameEnd).assess = s.assess := rfl
@[simp] theorem loadFrameEnd_chans : (s.loadFrameEnd).chans = s.chans := rfl
@[simp] theorem loadFrameEnd_overrides : (s.loadFrameEnd).overrides = s.overrides := rfl
@[simp] theorem loadFrameEnd_ctxs : (s.loadFrameEnd).ctxs = s.ctxs := rfl
@[simp] theorem loadFrameEnd_ctxSerial : (s.loadFrameEnd).ctxSerial = s.ctxSerial := rfl
@[simp] theorem loadFrameEnd_seq : (s.loadFrameEnd).seq = s.seq := rfl
@[simp] theorem loadFrameEnd_roster : (s.loadFrameEnd).roster = s.roster := rfl
@[simp] theorem loadFrameEnd_panel : (s.loadFrameEnd).panel = s.panel := rfl
@[simp] theorem loadFrameEnd_mgmt : (s.loadFrameEnd).mgmt = s.mgmt := rfl
@[simp] theorem loadFrameEnd_alerts : (s.loadFrameEnd).alerts = s.alerts := rfl

/-! ### panelFree -/

@[simp] theorem panelFree_now : (s.panelFree).now = s.now := rfl
@[simp] theorem panelFree_nodeId : (s.panelFree).nodeId = s.nodeId := rfl
@[simp] theorem panelFree_reserve : (s.panelFree).reserve = s.reserve := rfl
@[simp] theorem panelFree_assess : (s.panelFree).assess = s.assess := rfl
@[simp] theorem panelFree_chans : (s.panelFree).chans = s.chans := rfl
@[simp] theorem panelFree_overrides : (s.panelFree).overrides = s.overrides := rfl
@[simp] theorem panelFree_ctxs : (s.panelFree).ctxs = s.ctxs := rfl
@[simp] theorem panelFree_ctxSerial : (s.panelFree).ctxSerial = s.ctxSerial := rfl
@[simp] theorem panelFree_seq : (s.panelFree).seq = s.seq := rfl
@[simp] theorem panelFree_roster : (s.panelFree).roster = s.roster := rfl
@[simp] theorem panelFree_load : (s.panelFree).load = s.load := rfl
@[simp] theorem panelFree_mgmt : (s.panelFree).mgmt = s.mgmt := rfl
@[simp] theorem panelFree_alerts : (s.panelFree).alerts = s.alerts := rfl

/-! ### give -/

@[simp] theorem give_now (a : Answer) : (s.give a).now = s.now := rfl
@[simp] theorem give_nodeId (a : Answer) : (s.give a).nodeId = s.nodeId := rfl
@[simp] theorem give_reserve (a : Answer) : (s.give a).reserve = s.reserve := rfl
@[simp] theorem give_assess (a : Answer) : (s.give a).assess = s.assess := rfl
@[simp] theorem give_chans (a : Answer) : (s.give a).chans = s.chans := rfl
@[simp] theorem give_overrides (a : Answer) : (s.give a).overrides = s.overrides := rfl
@[simp] theorem give_ctxs (a : Answer) : (s.give a).ctxs = s.ctxs := rfl
@[simp] theorem give_ctxSerial (a : Answer) : (s.give a).ctxSerial = s.ctxSerial := rfl
@[simp] theorem give_seq (a : Answer) : (s.give a).seq = s.seq := rfl
@[simp] theorem give_roster (a : Answer) : (s.give a).roster = s.roster := rfl
@[simp] theorem give_load (a : Answer) : (s.give a).load = s.load := rfl
@[simp] theorem give_mgmt (a : Answer) : (s.give a).mgmt = s.mgmt := rfl
@[simp] theorem give_alerts (a : Answer) : (s.give a).alerts = s.alerts := rfl

/-! ### stageReserve -/

@[simp] theorem stageReserve_now : (s.stageReserve).now = s.now := rfl
@[simp] theorem stageReserve_nodeId : (s.stageReserve).nodeId = s.nodeId := rfl
@[simp] theorem stageReserve_reserve : (s.stageReserve).reserve = s.reserve.assess s.settings := rfl
@[simp] theorem stageReserve_assess : (s.stageReserve).assess = s.assess := rfl
@[simp] theorem stageReserve_chans : (s.stageReserve).chans = s.chans := rfl
@[simp] theorem stageReserve_overrides : (s.stageReserve).overrides = s.overrides := rfl
@[simp] theorem stageReserve_ctxs : (s.stageReserve).ctxs = s.ctxs := rfl
@[simp] theorem stageReserve_ctxSerial : (s.stageReserve).ctxSerial = s.ctxSerial := rfl
@[simp] theorem stageReserve_seq : (s.stageReserve).seq = s.seq := rfl
@[simp] theorem stageReserve_roster : (s.stageReserve).roster = s.roster := rfl
@[simp] theorem stageReserve_load : (s.stageReserve).load = s.load := rfl
@[simp] theorem stageReserve_panel : (s.stageReserve).panel = s.panel := rfl
@[simp] theorem stageReserve_mgmt : (s.stageReserve).mgmt = s.mgmt := rfl
@[simp] theorem stageReserve_alerts : (s.stageReserve).alerts = s.alerts := rfl

/-! ### stageGuards -/

@[simp] theorem stageGuards_now : (s.stageGuards).now = s.now := rfl
@[simp] theorem stageGuards_nodeId : (s.stageGuards).nodeId = s.nodeId := rfl
@[simp] theorem stageGuards_reserve : (s.stageGuards).reserve = s.reserve := rfl
@[simp] theorem stageGuards_chans : (s.stageGuards).chans = s.chans := rfl
@[simp] theorem stageGuards_overrides : (s.stageGuards).overrides = s.overrides := rfl
@[simp] theorem stageGuards_ctxs : (s.stageGuards).ctxs = s.ctxs := rfl
@[simp] theorem stageGuards_ctxSerial : (s.stageGuards).ctxSerial = s.ctxSerial := rfl
@[simp] theorem stageGuards_seq : (s.stageGuards).seq = s.seq := rfl
@[simp] theorem stageGuards_roster : (s.stageGuards).roster = s.roster := rfl
@[simp] theorem stageGuards_load : (s.stageGuards).load = s.load := rfl
@[simp] theorem stageGuards_panel : (s.stageGuards).panel = s.panel := rfl
@[simp] theorem stageGuards_mgmt : (s.stageGuards).mgmt = s.mgmt := rfl
@[simp] theorem stageGuards_alerts : (s.stageGuards).alerts = s.alerts := rfl

/-! ### stageDemands -/

@[simp] theorem stageDemands_now : (s.stageDemands).now = s.now := rfl
@[simp] theorem stageDemands_nodeId : (s.stageDemands).nodeId = s.nodeId := rfl
@[simp] theorem stageDemands_reserve : (s.stageDemands).reserve = s.reserve := rfl
@[simp] theorem stageDemands_chans : (s.stageDemands).chans = s.chans := rfl
@[simp] theorem stageDemands_overrides : (s.stageDemands).overrides = s.overrides := rfl
@[simp] theorem stageDemands_ctxs : (s.stageDemands).ctxs = s.ctxs := rfl
@[simp] theorem stageDemands_ctxSerial : (s.stageDemands).ctxSerial = s.ctxSerial := rfl
@[simp] theorem stageDemands_seq : (s.stageDemands).seq = s.seq := rfl
@[simp] theorem stageDemands_roster : (s.stageDemands).roster = s.roster := rfl
@[simp] theorem stageDemands_load : (s.stageDemands).load = s.load := rfl
@[simp] theorem stageDemands_panel : (s.stageDemands).panel = s.panel := rfl
@[simp] theorem stageDemands_mgmt : (s.stageDemands).mgmt = s.mgmt := rfl
@[simp] theorem stageDemands_alerts : (s.stageDemands).alerts = s.alerts := rfl

/-! ### stageSettle -/

@[simp] theorem stageSettle_now : (s.stageSettle).now = s.now := rfl
@[simp] theorem stageSettle_nodeId : (s.stageSettle).nodeId = s.nodeId := rfl
@[simp] theorem stageSettle_reserve : (s.stageSettle).reserve = s.reserve := rfl
@[simp] theorem stageSettle_assess : (s.stageSettle).assess = { s.assess with unsettled := false } := rfl
@[simp] theorem stageSettle_chans : (s.stageSettle).chans = s.chans := rfl
@[simp] theorem stageSettle_overrides : (s.stageSettle).overrides = s.overrides := rfl
@[simp] theorem stageSettle_ctxs : (s.stageSettle).ctxs = s.ctxs := rfl
@[simp] theorem stageSettle_ctxSerial : (s.stageSettle).ctxSerial = s.ctxSerial := rfl
@[simp] theorem stageSettle_seq : (s.stageSettle).seq = s.seq := rfl
@[simp] theorem stageSettle_roster : (s.stageSettle).roster = s.roster := rfl
@[simp] theorem stageSettle_load : (s.stageSettle).load = s.load := rfl
@[simp] theorem stageSettle_panel : (s.stageSettle).panel = s.panel := rfl
@[simp] theorem stageSettle_mgmt : (s.stageSettle).mgmt = s.mgmt := rfl
@[simp] theorem stageSettle_alerts : (s.stageSettle).alerts = s.alerts := rfl

/-! ### beginWait -/

@[simp] theorem beginWait_now (c : Channel) (x : Context) (k : Nat) : (s.beginWait c x k).now = s.now := rfl
@[simp] theorem beginWait_nodeId (c : Channel) (x : Context) (k : Nat) : (s.beginWait c x k).nodeId = s.nodeId := rfl
@[simp] theorem beginWait_reserve (c : Channel) (x : Context) (k : Nat) : (s.beginWait c x k).reserve = s.reserve := rfl
@[simp] theorem beginWait_assess (c : Channel) (x : Context) (k : Nat) : (s.beginWait c x k).assess = s.assess := rfl
@[simp] theorem beginWait_chans (c : Channel) (x : Context) (k : Nat) : (s.beginWait c x k).chans = s.chans := rfl
@[simp] theorem beginWait_overrides (c : Channel) (x : Context) (k : Nat) :
    (s.beginWait c x k).overrides = s.overrides := rfl
@[simp] theorem beginWait_ctxSerial (c : Channel) (x : Context) (k : Nat) :
    (s.beginWait c x k).ctxSerial = s.ctxSerial := rfl
@[simp] theorem beginWait_seq (c : Channel) (x : Context) (k : Nat) : (s.beginWait c x k).seq = s.seq := rfl
@[simp] theorem beginWait_roster (c : Channel) (x : Context) (k : Nat) : (s.beginWait c x k).roster = s.roster := rfl
@[simp] theorem beginWait_load (c : Channel) (x : Context) (k : Nat) : (s.beginWait c x k).load = s.load := rfl
@[simp] theorem beginWait_panel (c : Channel) (x : Context) (k : Nat) : (s.beginWait c x k).panel = s.panel := rfl
@[simp] theorem beginWait_mgmt (c : Channel) (x : Context) (k : Nat) : (s.beginWait c x k).mgmt = s.mgmt := rfl
@[simp] theorem beginWait_alerts (c : Channel) (x : Context) (k : Nat) : (s.beginWait c x k).alerts = s.alerts := rfl

/-! ### Reads that such an update leaves alone -/

@[simp] theorem modChan_same (c : Channel) (f : ChanRec → ChanRec) : (s.modChan c f).chans[c] = f s.chans[c] := by
  simp

theorem modChan_other (c d : Channel) (f : ChanRec → ChanRec) (h : c ≠ d) : (s.modChan c f).chans[d] = s.chans[d] := by
  have : c.val ≠ d.val := fun e => h (Fin.ext e)
  simp [this]

@[simp] theorem setCtx_same (c : Channel) (x : Option Context) : (s.setCtx c x).ctxs[c] = x := by
  simp

theorem setCtx_other (c d : Channel) (x : Option Context) (h : c ≠ d) : (s.setCtx c x).ctxs[d] = s.ctxs[d] := by
  have : c.val ≠ d.val := fun e => h (Fin.ext e)
  simp [this]

end Sys2Proof.Machine.Part
end

