-- ==== Sys2Proof/Laws/Frames.lean ====
section
/-! SUPPORT. What the operations of the Channel Table, the Programme Runner and the Restore Sequencer can do, said once
an operation: they leave the time base, the Reserve and Assessment Units, the Roster Unit, the tables, the alert
conditions and the ports alone (`ChannelStep`). -/

namespace Sys2Proof.Machine

/-- What an operation on channels leaves as it was. It may change channels, overrides, contexts, the Sequencer, the
engine queue with its awaiting commands, and the notice queue. -/
structure ChannelStep (s t : Part) : Prop where
  now          : t.now = s.now
  nodeId       : t.nodeId = s.nodeId
  reserve      : t.reserve = s.reserve
  assess       : t.assess = s.assess
  roster       : t.roster = s.roster
  mgmt         : t.mgmt = s.mgmt
  alerts       : t.alerts = s.alerts
  loadPort     : t.load.port = s.load.port
  loadSending  : t.load.sending = s.load.sending
  loadForward  : t.load.forward = s.load.forward
  loadCount    : t.load.engineCount = s.load.engineCount
  loadAsks     : t.load.awaitOpenset = s.load.awaitOpenset ∧ t.load.awaitCensus = s.load.awaitCensus
  panelPort    : t.panel.port = s.panel.port
  panelSending : t.panel.sending = s.panel.sending
  panelForward : t.panel.forward = s.panel.forward
  panelAnswer  : t.panel.answer = s.panel.answer
  notices      : s.panel.notices <+: t.panel.notices

namespace ChannelStep

theorem refl (s : Part) : ChannelStep s s := by constructor <;> simp

theorem trans {s t u : Part} (h : ChannelStep s t) (k : ChannelStep t u) : ChannelStep s u where
  now := k.now.trans h.now
  nodeId := k.nodeId.trans h.nodeId
  reserve := k.reserve.trans h.reserve
  assess := k.assess.trans h.assess
  roster := k.roster.trans h.roster
  mgmt := k.mgmt.trans h.mgmt
  alerts := k.alerts.trans h.alerts
  loadPort := k.loadPort.trans h.loadPort
  loadSending := k.loadSending.trans h.loadSending
  loadForward := k.loadForward.trans h.loadForward
  loadCount := k.loadCount.trans h.loadCount
  loadAsks := ⟨k.loadAsks.1.trans h.loadAsks.1, k.loadAsks.2.trans h.loadAsks.2⟩
  panelPort := k.panelPort.trans h.panelPort
  panelSending := k.panelSending.trans h.panelSending
  panelForward := k.panelForward.trans h.panelForward
  panelAnswer := k.panelAnswer.trans h.panelAnswer
  notices := h.notices.trans k.notices

/-- A fold of channel operations is one. -/
theorem foldl {α : Type} {f : Part → α → Part} (h : ∀ s a, ChannelStep s (f s a)) (l : List α) :
    ∀ s, ChannelStep s (l.foldl f s) := by
  induction l with
  | nil => exact refl
  | cons a l ih => exact fun s => (h s a).trans (ih _)

theorem forEach {f : Part → Channel → Part} (h : ∀ s c, ChannelStep s (f s c)) (s : Part) (cs : List Channel) :
    ChannelStep s (s.forEach cs f) := foldl h cs s

/-- Settings, tier, shed zone and owner are read from what a channel operation leaves alone. -/
theorem settings {s t : Part} (h : ChannelStep s t) : t.settings = s.settings := by simp [Part.settings, h.mgmt]

theorem tier {s t : Part} (h : ChannelStep s t) (c : Channel) : t.tier c = s.tier c := by
  simp [Part.tier, Part.cfg, h.mgmt]

theorem cfg {s t : Part} (h : ChannelStep s t) (c : Channel) : t.cfg c = s.cfg c := by simp [Part.cfg, h.mgmt]

theorem owner {s t : Part} (h : ChannelStep s t) (c : Channel) : t.owner c = s.owner c := by simp [Part.owner, h.mgmt]

end ChannelStep

namespace Part

/-! ## One lemma an operation -/

theorem modChan_step (s : Part) (c : Channel) (f : ChanRec → ChanRec) : ChannelStep s (s.modChan c f) := by
  constructor <;> simp

theorem setCtx_step (s : Part) (c : Channel) (x : Option Context) : ChannelStep s (s.setCtx c x) := by
  constructor <;> simp

theorem abort_step (s : Part) (c : Channel) : ChannelStep s (s.abort c) := s.setCtx_step c none

theorem push_step (s : Part) (c : Channel) : ChannelStep s (s.push c) := by constructor <;> simp

theorem unlist_step (s : Part) (c : Channel) : ChannelStep s (s.unlist c) := by constructor <;> simp

theorem startSpacing_step (s : Part) : ChannelStep s s.startSpacing := by constructor <;> simp

theorem setOverride_step (s : Part) (i : Fin 4) (o : Option Override) : ChannelStep s (s.setOverride i o) := by
  constructor <;> simp

theorem freeOverrideOf_step (s : Part) (c : Channel) : ChannelStep s (s.freeOverrideOf c) := by constructor <;> simp

/-- A notice changes the notice queue and the overflow mark alone. -/
theorem notify_step (s : Part) (b : NoticeBody) : ChannelStep s (s.notify b) := by
  unfold notify; split <;> constructor <;> simp

theorem enter_step (s : Part) (c : Channel) (st : ChanState) : ChannelStep s (s.enter c st) := by
  unfold enter; split
  · exact (modChan_step ..).trans (notify_step ..)
  · exact modChan_step ..

theorem enterBarred_step (s : Part) (c : Channel) : ChannelStep s (s.enterBarred c) :=
  (modChan_step ..).trans (enter_step ..)

theorem staleTerminal_step (s : Part) (c : Channel) : ChannelStep s (s.staleTerminal c) := by
  unfold staleTerminal; split
  · exact .refl s
  · exact modChan_step ..

theorem handBack_step (s : Part) (r : Request) : ChannelStep s (s.handBack r) := by
  unfold handBack; split
  · exact startSpacing_step s
  · exact staleTerminal_step ..
  · exact staleTerminal_step ..
  · exact .refl s

theorem enqueue_step (s : Part) (r : Request) : ChannelStep s (s.enqueue r) := by constructor <;> simp [enqueue]

theorem request_step (s : Part) (b : EngBody) (p : Purpose) : ChannelStep s (s.request b p) := by
  unfold request; split
  · exact enqueue_step ..
  · exact ChannelStep.trans (t := { s with load := _ }) (by constructor <;> simp)
      (ChannelStep.foldl (fun s r => handBack_step s r) _ _)

theorem beginTerminal_step (s : Part) (c : Channel) (x : Context) (k : Nat) : ChannelStep s (s.beginTerminal c x k) := by
  unfold beginTerminal
  exact ((setCtx_step ..).trans (request_step ..)).trans (modChan_step ..)

theorem beginStopAsk_step (s : Part) (c : Channel) (x : Context) (k : Nat) : ChannelStep s (s.beginStopAsk c x k) :=
  (setCtx_step ..).trans (request_step ..)

theorem beginFrom_step (n : Nat) (s : Part) (c : Channel) (x : Context) (k : Nat) :
    ChannelStep s (beginFrom n s c x k) := by
  induction n generalizing k with
  | zero => exact setCtx_step ..
  | succ n ih =>
    unfold beginFrom
    split
    · exact setCtx_step ..
    · exact beginStopAsk_step ..
    · split
      · exact ih _
      · exact setCtx_step ..
    · exact setCtx_step ..
    · exact ih _
    · exact ih _
    · exact beginTerminal_step ..
    · exact beginTerminal_step ..

theorem endStep_step (s : Part) (c : Channel) (x : Context) : ChannelStep s (s.endStep c x) := beginFrom_step ..

theorem createContext_step (s : Part) (c : Channel) : ChannelStep s (s.createContext c) := by
  unfold createContext
  have h : ChannelStep s { s with ctxSerial := s.ctxSerial + 1 } := by constructor <;> simp
  simp only
  split
  · exact h.trans (beginTerminal_step ..)
  · exact h.trans (beginFrom_step ..)

theorem enterShedding_step (s : Part) (c : Channel) : ChannelStep s (s.enterShedding c) :=
  ((push_step ..).trans (enter_step ..)).trans (createContext_step ..)

theorem runnerReport_step (s : Part) (c : Channel) (e : ReportEntry) : ChannelStep s (s.runnerReport c e) := by
  unfold runnerReport
  repeat' split
  all_goals first | exact .refl s | exact endStep_step ..

theorem stepDeadline_step (s : Part) (c : Channel) (k : StepKind) : ChannelStep s (s.stepDeadline c k) := by
  unfold stepDeadline
  repeat' split
  all_goals first | exact .refl s | exact endStep_step ..

theorem stopreqOutcome_step (s : Part) (c : Channel) (n : Nat) (o : CmdOutcome) :
    ChannelStep s (s.stopreqOutcome c n o) := by
  unfold stopreqOutcome
  repeat' split
  all_goals first | exact .refl s | exact endStep_step .. | exact setCtx_step ..

theorem toRestoring_step (s : Part) (c : Channel) (b : EngBody) (p : Purpose) :
    ChannelStep s (s.toRestoring c b p) :=
  ((request_step ..).trans (modChan_step ..)).trans (enter_step ..)

theorem liveUnsent_step (s : Part) (c : Channel) : ChannelStep s (s.liveUnsent c) :=
  ((unlist_step ..).trans (modChan_step ..)).trans (enter_step ..)

theorem pick_step (s : Part) : ChannelStep s s.pick := by
  unfold pick
  split
  · exact .refl s
  · rename_i c _
    simp only
    split
    · exact (liveUnsent_step ..).trans (startSpacing_step _)
    · refine ((unlist_step s c).trans (toRestoring_step _ c (s.intentCommand c) .restore)).trans
        (u := { (s.unlist c).toRestoring c (s.intentCommand c) .restore with seq := _ }) ?_
      constructor <;> simp

theorem pickDue_step (s : Part) : ChannelStep s s.pickDue := by
  unfold pickDue; split
  · exact pick_step s
  · exact .refl s

theorem enterShed_step (s : Part) (c : Channel) : ChannelStep s (s.enterShed c) := (enter_step ..).trans (pickDue_step _)

theorem endProgramme_step (s : Part) (c : Channel) (d : Bool) : ChannelStep s (s.endProgramme c d) :=
  ((setCtx_step ..).trans (modChan_step ..)).trans (enterShed_step ..)

theorem terminalOutcome_step (s : Part) (c : Channel) (n : Nat) (o : CmdOutcome) :
    ChannelStep s (s.terminalOutcome c n o) := by
  unfold terminalOutcome
  repeat' split
  all_goals first | exact staleTerminal_step .. | exact endProgramme_step ..

theorem openingResult_step (s : Part) (c : Channel) (o : Bool) : ChannelStep s (s.openingResult c o) := by
  unfold openingResult
  repeat' split
  all_goals first | exact staleTerminal_step .. | exact endProgramme_step .. | exact beginTerminal_step ..

theorem endRestoring_step (s : Part) (c : Channel) (o : CmdOutcome) : ChannelStep s (s.endRestoring c o) := by
  unfold endRestoring
  simp only
  split
  · split
    · exact (modChan_step ..).trans (enterShedding_step ..)
    · exact (modChan_step ..).trans (enter_step ..)
  · exact .refl s

theorem restoreOutcome_step (s : Part) (c : Channel) (o : CmdOutcome) : ChannelStep s (s.restoreOutcome c o) :=
  (endRestoring_step ..).trans (startSpacing_step _)

theorem boostOutcome_step (s : Part) (c : Channel) (o : CmdOutcome) : ChannelStep s (s.boostOutcome c o) := by
  unfold boostOutcome; split
  · exact modChan_step ..
  · exact .refl s

theorem resendOutcome_step (s : Part) (c : Channel) (o : CmdOutcome) : ChannelStep s (s.resendOutcome c o) := by
  unfold resendOutcome; split
  · exact (modChan_step ..).trans (staleTerminal_step ..)
  · exact staleTerminal_step ..

theorem repeatTerminal_step (s : Part) (c : Channel) : ChannelStep s (s.repeatTerminal c) := by
  unfold repeatTerminal; split
  · exact .refl s
  · exact (request_step ..).trans (modChan_step ..)

theorem strayOn_step (s : Part) (c : Channel) (n : Nat) : ChannelStep s (s.strayOn c n) := by
  unfold strayOn; simp only; split
  · exact repeatTerminal_step ..
  · exact .refl s

theorem resendAll_step (s : Part) : ChannelStep s s.resendAll := by
  unfold resendAll
  refine ChannelStep.trans (t := { s with chans := _ }) (by constructor <;> simp) (ChannelStep.forEach ?_ _ _)
  intro s c
  simp only
  split
  · exact repeatTerminal_step ..
  · exact .refl s

theorem markUnreachable_step (s : Part) (n : NodeId) : ChannelStep s (s.markUnreachable n) := by
  refine ChannelStep.forEach (fun s c => ?_) _ _
  split
  · exact modChan_step ..
  · exact .refl s

theorem markReturned_step (s : Part) (n : NodeId) : ChannelStep s (s.markReturned n) := by
  refine ChannelStep.trans (ChannelStep.forEach (fun s c => ?_) s allChannels) (ChannelStep.forEach (fun s c => ?_) _ _)
  · split
    · exact modChan_step ..
    · exact .refl s
  · split
    · exact repeatTerminal_step ..
    · exact .refl s

theorem resolve_step (s : Part) (c : Channel) (n : Nat) : ChannelStep s (s.resolve c n) := by
  unfold resolve
  simp only
  split
  · split
    · exact (modChan_step ..).trans (enterShedding_step ..)
    · exact ((modChan_step ..).trans (modChan_step ..)).trans (enter_step ..)
  · exact (modChan_step ..).trans (enter_step ..)

theorem takeEntry_step (s : Part) (c : Channel) (e : ReportEntry) : ChannelStep s (s.takeEntry c e) := by
  unfold takeEntry
  simp only
  split
  · exact (modChan_step ..).trans (resolve_step ..)
  · exact (modChan_step ..).trans (modChan_step ..)
  · exact (modChan_step ..).trans (modChan_step ..)
  · split
    · split
      · exact (modChan_step ..).trans (modChan_step ..)
      · exact ((modChan_step ..).trans (modChan_step ..)).trans (enterShedding_step ..)
    · exact modChan_step ..
  · exact (modChan_step ..).trans (strayOn_step ..)
  · exact (modChan_step ..).trans (runnerReport_step ..)
  · exact modChan_step ..
  · exact modChan_step ..

theorem takeReport_step (s : Part) (n : NodeId) (d : List Byte) : ChannelStep s (s.takeReport n d) := by
  refine ChannelStep.foldl (fun s p => ?_) _ s
  split
  · exact takeEntry_step ..
  · exact .refl s

theorem riseAction_step (s : Part) (n : Nat) : ChannelStep s (s.riseAction n) := by
  refine ChannelStep.forEach (fun s c => ?_) s _
  repeat' split
  all_goals first | exact .refl s | exact enterShedding_step .. | exact enterBarred_step ..

theorem unbar_step (s : Part) (c : Channel) : ChannelStep s (s.unbar c) := (modChan_step ..).trans (enter_step ..)

theorem fallAction_step (s : Part) : ChannelStep s s.fallAction := by
  refine ChannelStep.forEach (fun s c => ?_) s _
  split
  · exact unbar_step ..
  · exact .refl s

theorem boostSwitchOn_step (s : Part) (c : Channel) : ChannelStep s (s.boostSwitchOn c) := by
  unfold boostSwitchOn; split
  · exact .refl s
  · exact (request_step ..).trans (modChan_step ..)

theorem expireOverride_step (s : Part) (i : Fin 4) (o : Override) : ChannelStep s (s.expireOverride i o) := by
  unfold expireOverride; simp only; split
  · exact (setOverride_step ..).trans (enterShedding_step ..)
  · exact (setOverride_step ..).trans (enter_step ..)

theorem takeOverride_step (s : Part) (c : Channel) (m : Byte) : ChannelStep s (s.takeOverride c m) := by
  unfold takeOverride; simp only
  repeat' split
  all_goals first | exact .refl s | exact setOverride_step ..

theorem startBoostOn_step (s : Part) (c : Channel) : ChannelStep s (s.startBoostOn c) := by
  unfold startBoostOn; split
  · exact boostSwitchOn_step ..
  · constructor <;> simp

theorem grantBoost_step (s : Part) (c : Channel) (m : Byte) : ChannelStep s (s.grantBoost c m) := by
  unfold grantBoost; simp only
  have h := ((((s.takeOverride_step c m).trans (modChan_step _ c fun r => { r with intent := boostIntent r.intent })).trans
    (abort_step _ c)).trans (unlist_step _ c)).trans (enter_step _ c .overridden)
  split
  · exact h.trans (startBoostOn_step ..)
  · exact h

theorem releaseOne_step (s : Part) (c : Channel) : ChannelStep s (s.releaseOne c) := by
  unfold releaseOne; split
  · exact ((((modChan_step ..).trans (abort_step ..)).trans (unlist_step ..)).trans (freeOverrideOf_step ..)).trans
      (enter_step ..)
  · exact .refl s

theorem retainOne_step (s : Part) (c : Channel) : ChannelStep s (s.retainOne c) := by
  unfold retainOne; split
  · exact (modChan_step ..).trans (enter_step ..)
  · exact .refl s

theorem releaseFrom_step (s : Part) (n : Nat) : ChannelStep s (s.releaseFrom n) :=
  ChannelStep.forEach releaseOne_step s _

theorem retainFrom_step (s : Part) (n : Nat) : ChannelStep s (s.retainFrom n) := ChannelStep.forEach retainOne_step s _

theorem reconcileOwner_step (s : Part) (c : Channel) : ChannelStep s (s.reconcileOwner c) :=
  ((((abort_step ..).trans (unlist_step ..)).trans (freeOverrideOf_step ..)).trans (modChan_step ..)).trans
    (enter_step ..)

theorem reconcileShedding_step (s : Part) (c : Channel) : ChannelStep s (s.reconcileShedding c) := by
  unfold reconcileShedding; simp only
  repeat' split
  · exact (abort_step ..).trans (liveUnsent_step ..)
  · exact ((abort_step ..).trans (unlist_step ..)).trans (toRestoring_step ..)
  · exact ((abort_step ..).trans (unlist_step ..)).trans (enter_step ..)

theorem moveDeadline_step (s : Part) (old : Tables) (c : Channel) : ChannelStep s (s.moveDeadline old c) := by
  unfold moveDeadline
  repeat' split
  all_goals first
    | exact .refl s
    | exact (setOverride_step ..).trans (boostSwitchOn_step ..)
    | exact setOverride_step ..

theorem reconcileOne_step (old : Tables) (s : Part) (c : Channel) : ChannelStep s (reconcileOne old s c) := by
  unfold reconcileOne
  split
  · split
    · exact reconcileOwner_step s c
    · split
      · split
        · exact (freeOverrideOf_step s c).trans (enter_step _ c .live)
        · exact moveDeadline_step s old c
      · split
        · exact .refl s
        · exact reconcileShedding_step s c
      · split
        · exact .refl s
        · exact unbar_step s c
      · split
        · split
          · exact enterShedding_step s c
          · exact enterBarred_step s c
        · exact .refl s
      · exact .refl s
  · split
    · exact modChan_step s c _
    · exact .refl s

theorem reconcile_step (s : Part) (old : Tables) : ChannelStep s (s.reconcile old) :=
  ChannelStep.forEach (reconcileOne_step old) s _

theorem criticalMove_step (mark : List Channel) (s : Part) (c : Channel) : ChannelStep s (criticalMove mark s c) := by
  unfold criticalMove
  repeat' split
  all_goals first
    | exact .refl s
    | exact (push_step ..).trans (enter_step ..)
    | exact enterBarred_step ..

theorem criticalContext_step (mark : List Channel) (s : Part) (c : Channel) :
    ChannelStep s (criticalContext mark s c) := by
  have h : ChannelStep s { s with ctxSerial := s.ctxSerial + 1 } := by constructor <;> simp
  unfold criticalContext
  cases hx : s.ctxs[c] <;> simp only [Option.isNone, Option.getD, if_true, Bool.false_eq_true, if_false]
  all_goals repeat' split
  all_goals first
    | exact .refl s
    | exact h.trans ((setCtx_step ..).trans (modChan_step ..))
    | exact (setCtx_step ..).trans (modChan_step ..)
    | exact h.trans (beginFrom_step ..)
    | exact h.trans (beginTerminal_step ..)
    | exact beginTerminal_step ..

end Part

end Sys2Proof.Machine
end

