-- ==== Sys2Proof/Laws/PerInstr.lean ====
section
/-! SUPPORT. The law stated of each command as syntax: the time that passes before an event has no part in whether
its operands are allowed. -/

/-- Another time before the event changes the elapsed time alone: the command stays as well formed as it was. -/
def Sys2Proof.Laws.Retime.Statement (i : Sys2Proof.Instr) : Prop :=
  ∀ d : Nat, (i.retime d).elapsed = d ∧ (i.retime d).wf = i.wf ∧ (i.retime d).retime i.elapsed = i

theorem Sys2Proof.Laws.Retime.hardwareReset (dt : Nat) (node : BitVec 4) (fall : BitVec 3) :
    Sys2Proof.Laws.Retime.Statement (.hardwareReset dt node fall) := fun _ => ⟨rfl, rfl, rfl⟩

theorem Sys2Proof.Laws.Retime.storeReadEnd (dt : Nat) :
    Sys2Proof.Laws.Retime.Statement (.storeReadEnd dt) := fun _ => ⟨rfl, rfl, rfl⟩

theorem Sys2Proof.Laws.Retime.managementReset (dt : Nat) :
    Sys2Proof.Laws.Retime.Statement (.managementReset dt) := fun _ => ⟨rfl, rfl, rfl⟩

theorem Sys2Proof.Laws.Retime.portActiveAfterReset (dt : Nat) (port : Sys2Proof.PortId) :
    Sys2Proof.Laws.Retime.Statement (.portActiveAfterReset dt port) := fun _ => ⟨rfl, rfl, rfl⟩

theorem Sys2Proof.Laws.Retime.symbolViolation (dt : Nat) (port : Sys2Proof.PortId) (roll : List Sys2Proof.Byte) :
    Sys2Proof.Laws.Retime.Statement (.symbolViolation dt port roll) := fun _ => ⟨rfl, rfl, rfl⟩

theorem Sys2Proof.Laws.Retime.dataOverrun (dt : Nat) (port : Sys2Proof.PortId) :
    Sys2Proof.Laws.Retime.Statement (.dataOverrun dt port) := fun _ => ⟨rfl, rfl, rfl⟩

theorem Sys2Proof.Laws.Retime.bitError (dt : Nat) (port : Sys2Proof.PortId) :
    Sys2Proof.Laws.Retime.Statement (.bitError dt port) := fun _ => ⟨rfl, rfl, rfl⟩

theorem Sys2Proof.Laws.Retime.arbitrationLost (dt : Nat) (port : Sys2Proof.PortId) (winner : BitVec 24) :
    Sys2Proof.Laws.Retime.Statement (.arbitrationLost dt port winner) := fun _ => ⟨rfl, rfl, rfl⟩

theorem Sys2Proof.Laws.Retime.silentEnd (dt : Nat) (port : Sys2Proof.PortId) :
    Sys2Proof.Laws.Retime.Statement (.silentEnd dt port) := fun _ => ⟨rfl, rfl, rfl⟩

theorem Sys2Proof.Laws.Retime.portFaultEntry (dt : Nat) (port : Sys2Proof.PortId) :
    Sys2Proof.Laws.Retime.Statement (.portFaultEntry dt port) := fun _ => ⟨rfl, rfl, rfl⟩

theorem Sys2Proof.Laws.Retime.portFaultEnd (dt : Nat) (port : Sys2Proof.PortId) :
    Sys2Proof.Laws.Retime.Statement (.portFaultEnd dt port) := fun _ => ⟨rfl, rfl, rfl⟩

theorem Sys2Proof.Laws.Retime.checkByteMismatch (dt : Nat) (port : Sys2Proof.PortId) (bytes : List Sys2Proof.Byte) :
    Sys2Proof.Laws.Retime.Statement (.checkByteMismatch dt port bytes) := fun _ => ⟨rfl, rfl, rfl⟩

theorem Sys2Proof.Laws.Retime.sample (dt : Nat) (head : Sys2Proof.Head) (target : BitVec 7) (data : List Sys2Proof.Byte) :
    Sys2Proof.Laws.Retime.Statement (.sample dt head target data) := fun _ => ⟨rfl, rfl, rfl⟩

theorem Sys2Proof.Laws.Retime.staleTimerExpiry (dt : Nat) :
    Sys2Proof.Laws.Retime.Statement (.staleTimerExpiry dt) := fun _ => ⟨rfl, rfl, rfl⟩

theorem Sys2Proof.Laws.Retime.lostTimerExpiry (dt : Nat) :
    Sys2Proof.Laws.Retime.Statement (.lostTimerExpiry dt) := fun _ => ⟨rfl, rfl, rfl⟩

theorem Sys2Proof.Laws.Retime.assessment (dt : Nat) :
    Sys2Proof.Laws.Retime.Statement (.assessment dt) := fun _ => ⟨rfl, rfl, rfl⟩

theorem Sys2Proof.Laws.Retime.report (dt : Nat) (head : Sys2Proof.Head) (target : BitVec 7) (data : List Sys2Proof.Byte) :
    Sys2Proof.Laws.Retime.Statement (.report dt head target data) := fun _ => ⟨rfl, rfl, rfl⟩

theorem Sys2Proof.Laws.Retime.loadFrameArrival (dt : Nat) (arrival : Sys2Proof.LoadArrival) :
    Sys2Proof.Laws.Retime.Statement (.loadFrameArrival dt arrival) := fun _ => ⟨rfl, rfl, rfl⟩

theorem Sys2Proof.Laws.Retime.panelFrameArrival (dt : Nat) (frame : Sys2Proof.Frame) :
    Sys2Proof.Laws.Retime.Statement (.panelFrameArrival dt frame) := fun _ => ⟨rfl, rfl, rfl⟩

theorem Sys2Proof.Laws.Retime.panelSwitchOff (dt : Nat) (head : Sys2Proof.Head) (ch : Sys2Proof.Channel) :
    Sys2Proof.Laws.Retime.Statement (.panelSwitchOff dt head ch) := fun _ => ⟨rfl, rfl, rfl⟩

theorem Sys2Proof.Laws.Retime.panelSwitchOn (dt : Nat) (head : Sys2Proof.Head) (ch : Sys2Proof.Channel) :
    Sys2Proof.Laws.Retime.Statement (.panelSwitchOn dt head ch) := fun _ => ⟨rfl, rfl, rfl⟩

theorem Sys2Proof.Laws.Retime.panelSwitchLevel (dt : Nat) (head : Sys2Proof.Head) (ch : Sys2Proof.Channel) (level : Sys2Proof.Byte) :
    Sys2Proof.Laws.Retime.Statement (.panelSwitchLevel dt head ch level) := fun _ => ⟨rfl, rfl, rfl⟩

theorem Sys2Proof.Laws.Retime.boost (dt : Nat) (head : Sys2Proof.Head) (ch : Sys2Proof.Channel) (minutes : Sys2Proof.Byte) :
    Sys2Proof.Laws.Retime.Statement (.boost dt head ch minutes) := fun _ => ⟨rfl, rfl, rfl⟩

theorem Sys2Proof.Laws.Retime.switchMalformed (dt : Nat) (head : Sys2Proof.Head) (ch : Sys2Proof.Channel) (data : List Sys2Proof.Byte) :
    Sys2Proof.Laws.Retime.Statement (.switchMalformed dt head ch data) := fun _ => ⟨rfl, rfl, rfl⟩

theorem Sys2Proof.Laws.Retime.boostSwitchOnDeadline (dt : Nat) (entry : Fin 4) :
    Sys2Proof.Laws.Retime.Statement (.boostSwitchOnDeadline dt entry) := fun _ => ⟨rfl, rfl, rfl⟩

theorem Sys2Proof.Laws.Retime.overrideExpiry (dt : Nat) (entry : Fin 4) :
    Sys2Proof.Laws.Retime.Statement (.overrideExpiry dt entry) := fun _ => ⟨rfl, rfl, rfl⟩

theorem Sys2Proof.Laws.Retime.stopAskTimeout (dt : Nat) (ch : Sys2Proof.Channel) :
    Sys2Proof.Laws.Retime.Statement (.stopAskTimeout dt ch) := fun _ => ⟨rfl, rfl, rfl⟩

theorem Sys2Proof.Laws.Retime.waitIdleTimeout (dt : Nat) (ch : Sys2Proof.Channel) :
    Sys2Proof.Laws.Retime.Statement (.waitIdleTimeout dt ch) := fun _ => ⟨rfl, rfl, rfl⟩

theorem Sys2Proof.Laws.Retime.holdEnd (dt : Nat) (ch : Sys2Proof.Channel) :
    Sys2Proof.Laws.Retime.Statement (.holdEnd dt ch) := fun _ => ⟨rfl, rfl, rfl⟩

theorem Sys2Proof.Laws.Retime.readyTimeReached (dt : Nat) :
    Sys2Proof.Laws.Retime.Statement (.readyTimeReached dt) := fun _ => ⟨rfl, rfl, rfl⟩

theorem Sys2Proof.Laws.Retime.spacingTimerExpiry (dt : Nat) :
    Sys2Proof.Laws.Retime.Statement (.spacingTimerExpiry dt) := fun _ => ⟨rfl, rfl, rfl⟩

theorem Sys2Proof.Laws.Retime.silenceTimerExpiry (dt : Nat) (node : Sys2Proof.NodeId) :
    Sys2Proof.Laws.Retime.Statement (.silenceTimerExpiry dt node) := fun _ => ⟨rfl, rfl, rfl⟩

theorem Sys2Proof.Laws.Retime.retryPauseEnd (dt : Nat) (queue : Sys2Proof.QueueId) :
    Sys2Proof.Laws.Retime.Statement (.retryPauseEnd dt queue) := fun _ => ⟨rfl, rfl, rfl⟩

theorem Sys2Proof.Laws.Retime.loadPortSend (dt : Nat) :
    Sys2Proof.Laws.Retime.Statement (.loadPortSend dt) := fun _ => ⟨rfl, rfl, rfl⟩

theorem Sys2Proof.Laws.Retime.panelPortSend (dt : Nat) :
    Sys2Proof.Laws.Retime.Statement (.panelPortSend dt) := fun _ => ⟨rfl, rfl, rfl⟩

theorem Sys2Proof.Laws.Retime.attemptNoAnswer (dt : Nat) :
    Sys2Proof.Laws.Retime.Statement (.attemptNoAnswer dt) := fun _ => ⟨rfl, rfl, rfl⟩

theorem Sys2Proof.Laws.Retime.frameSent (dt : Nat) (port : Sys2Proof.PortId) :
    Sys2Proof.Laws.Retime.Statement (.frameSent dt port) := fun _ => ⟨rfl, rfl, rfl⟩

theorem Sys2Proof.Laws.Retime.terminalOutcome (dt : Nat) (ans : List Sys2Proof.Byte) :
    Sys2Proof.Laws.Retime.Statement (.terminalOutcome dt ans) := fun _ => ⟨rfl, rfl, rfl⟩

theorem Sys2Proof.Laws.Retime.stopreqOutcome (dt : Nat) (ans : List Sys2Proof.Byte) :
    Sys2Proof.Laws.Retime.Statement (.stopreqOutcome dt ans) := fun _ => ⟨rfl, rfl, rfl⟩

theorem Sys2Proof.Laws.Retime.restoreOutcome (dt : Nat) (ans : List Sys2Proof.Byte) :
    Sys2Proof.Laws.Retime.Statement (.restoreOutcome dt ans) := fun _ => ⟨rfl, rfl, rfl⟩

theorem Sys2Proof.Laws.Retime.resumeOutcome (dt : Nat) (ans : List Sys2Proof.Byte) :
    Sys2Proof.Laws.Retime.Statement (.resumeOutcome dt ans) := fun _ => ⟨rfl, rfl, rfl⟩

theorem Sys2Proof.Laws.Retime.boostSwitchOnOutcome (dt : Nat) (ans : List Sys2Proof.Byte) :
    Sys2Proof.Laws.Retime.Statement (.boostSwitchOnOutcome dt ans) := fun _ => ⟨rfl, rfl, rfl⟩

theorem Sys2Proof.Laws.Retime.resendOutcome (dt : Nat) (ans : List Sys2Proof.Byte) :
    Sys2Proof.Laws.Retime.Statement (.resendOutcome dt ans) := fun _ => ⟨rfl, rfl, rfl⟩

theorem Sys2Proof.Laws.Retime.censusRoundEnd (dt : Nat) (ans : List Sys2Proof.Byte) :
    Sys2Proof.Laws.Retime.Statement (.censusRoundEnd dt ans) := fun _ => ⟨rfl, rfl, rfl⟩

theorem Sys2Proof.Laws.Retime.opensetEnd (dt : Nat) (ans : List Sys2Proof.Byte) :
    Sys2Proof.Laws.Retime.Statement (.opensetEnd dt ans) := fun _ => ⟨rfl, rfl, rfl⟩

theorem Sys2Proof.Laws.Retime.forwardedOutcome (dt : Nat) (ans : List Sys2Proof.Byte) :
    Sys2Proof.Laws.Retime.Statement (.forwardedOutcome dt ans) := fun _ => ⟨rfl, rfl, rfl⟩

theorem Sys2Proof.Laws.Retime.storeWriteEnd (dt : Nat) (good : Bool) :
    Sys2Proof.Laws.Retime.Statement (.storeWriteEnd dt good) := fun _ => ⟨rfl, rfl, rfl⟩

theorem Sys2Proof.Laws.Retime.load (dt : Nat) (head : Sys2Proof.Head) (args : List Sys2Proof.Byte) :
    Sys2Proof.Laws.Retime.Statement (.load dt head args) := fun _ => ⟨rfl, rfl, rfl⟩

theorem Sys2Proof.Laws.Retime.commit (dt : Nat) (head : Sys2Proof.Head) (args : List Sys2Proof.Byte) :
    Sys2Proof.Laws.Retime.Statement (.commit dt head args) := fun _ => ⟨rfl, rfl, rfl⟩

theorem Sys2Proof.Laws.Retime.discard (dt : Nat) (head : Sys2Proof.Head) (args : List Sys2Proof.Byte) :
    Sys2Proof.Laws.Retime.Statement (.discard dt head args) := fun _ => ⟨rfl, rfl, rfl⟩

theorem Sys2Proof.Laws.Retime.read (dt : Nat) (head : Sys2Proof.Head) (args : List Sys2Proof.Byte) :
    Sys2Proof.Laws.Retime.Statement (.read dt head args) := fun _ => ⟨rfl, rfl, rfl⟩

theorem Sys2Proof.Laws.Retime.status (dt : Nat) (head : Sys2Proof.Head) (args : List Sys2Proof.Byte) :
    Sys2Proof.Laws.Retime.Statement (.status dt head args) := fun _ => ⟨rfl, rfl, rfl⟩

theorem Sys2Proof.Laws.Retime.channel (dt : Nat) (head : Sys2Proof.Head) (args : List Sys2Proof.Byte) :
    Sys2Proof.Laws.Retime.Statement (.channel dt head args) := fun _ => ⟨rfl, rfl, rfl⟩

theorem Sys2Proof.Laws.Retime.limits (dt : Nat) (head : Sys2Proof.Head) (args : List Sys2Proof.Byte) :
    Sys2Proof.Laws.Retime.Statement (.limits dt head args) := fun _ => ⟨rfl, rfl, rfl⟩

theorem Sys2Proof.Laws.Retime.setReserve (dt : Nat) (head : Sys2Proof.Head) (args : List Sys2Proof.Byte) :
    Sys2Proof.Laws.Retime.Statement (.setReserve dt head args) := fun _ => ⟨rfl, rfl, rfl⟩

theorem Sys2Proof.Laws.Retime.census (dt : Nat) (head : Sys2Proof.Head) (args : List Sys2Proof.Byte) :
    Sys2Proof.Laws.Retime.Statement (.census dt head args) := fun _ => ⟨rfl, rfl, rfl⟩

theorem Sys2Proof.Laws.Retime.release (dt : Nat) (head : Sys2Proof.Head) (args : List Sys2Proof.Byte) :
    Sys2Proof.Laws.Retime.Statement (.release dt head args) := fun _ => ⟨rfl, rfl, rfl⟩

theorem Sys2Proof.Laws.Retime.retain (dt : Nat) (head : Sys2Proof.Head) (args : List Sys2Proof.Byte) :
    Sys2Proof.Laws.Retime.Statement (.retain dt head args) := fun _ => ⟨rfl, rfl, rfl⟩

theorem Sys2Proof.Laws.Retime.restart (dt : Nat) (head : Sys2Proof.Head) (args : List Sys2Proof.Byte) :
    Sys2Proof.Laws.Retime.Statement (.restart dt head args) := fun _ => ⟨rfl, rfl, rfl⟩

theorem Sys2Proof.Laws.Retime.mgmtBadRequest (dt : Nat) (head : Sys2Proof.Head) (data : List Sys2Proof.Byte) :
    Sys2Proof.Laws.Retime.Statement (.mgmtBadRequest dt head data) := fun _ => ⟨rfl, rfl, rfl⟩
end

