-- ==== Sys2Proof/Laws/Traffic.lean ====
section
/-! SUPPORT. What the operations of the Roster Unit and of the Load Port can do, said once an operation: they leave the
time base, the Reserve and Assessment Units, the tables, the Panel Port but its notices, and every alert condition but
MODULE_ABSENT alone (`TrafficStep`). -/

namespace Sys2Proof.Machine

/-- What an operation of the Roster Unit or of the Load Port leaves as it was. -/
structure TrafficStep (s t : Part) : Prop where
  now          : t.now = s.now
  nodeId       : t.nodeId = s.nodeId
  reserve      : t.reserve = s.reserve
  assess       : t.assess = s.assess
  mgmt         : t.mgmt = s.mgmt
  critical     : t.alerts.critical = s.alerts.critical
  monitorLost  : t.alerts.monitorLost = s.alerts.monitorLost
  portFault    : t.alerts.portFault = s.alerts.portFault
  defaults     : t.alerts.defaults = s.alerts.defaults
  panelPort    : t.panel.port = s.panel.port
  panelSending : t.panel.sending = s.panel.sending
  panelForward : t.panel.forward = s.panel.forward
  panelAnswer  : t.panel.answer = s.panel.answer
  notices      : s.panel.notices <+: t.panel.notices
  loadState    : t.load.port.state = s.load.port.state ∧ t.load.port.startUp = s.load.port.startUp

namespace TrafficStep

theorem refl (s : Part) : TrafficStep s s := by constructor <;> simp

theorem trans {s t u : Part} (h : TrafficStep s t) (k : TrafficStep t u) : TrafficStep s u where
  now := k.now.trans h.now
  nodeId := k.nodeId.trans h.nodeId
  reserve := k.reserve.trans h.reserve
  assess := k.assess.trans h.assess
  mgmt := k.mgmt.trans h.mgmt
  critical := k.critical.trans h.critical
  monitorLost := k.monitorLost.trans h.monitorLost
  portFault := k.portFault.trans h.portFault
  defaults := k.defaults.trans h.defaults
  panelPort := k.panelPort.trans h.panelPort
  panelSending := k.panelSending.trans h.panelSending
  panelForward := k.panelForward.trans h.panelForward
  panelAnswer := k.panelAnswer.trans h.panelAnswer
  notices := h.notices.trans k.notices
  loadState := ⟨k.loadState.1.trans h.loadState.1, k.loadState.2.trans h.loadState.2⟩

theorem foldl {α : Type} {f : Part → α → Part} (h : ∀ s a, TrafficStep s (f s a)) (l : List α) :
    ∀ s, TrafficStep s (l.foldl f s) := by
  induction l with
  | nil => exact refl
  | cons a l ih => exact fun s => (h s a).trans (ih _)

theorem settings {s t : Part} (h : TrafficStep s t) : t.settings = s.settings := by simp [Part.settings, h.mgmt]

theorem tier {s t : Part} (h : TrafficStep s t) (c : Channel) : t.tier c = s.tier c := by
  simp [Part.tier, Part.cfg, h.mgmt]

theorem owner {s t : Part} (h : TrafficStep s t) (c : Channel) : t.owner c = s.owner c := by simp [Part.owner, h.mgmt]

end TrafficStep

/-- A channel operation is one too. -/
theorem ChannelStep.traffic {s t : Part} (h : ChannelStep s t) : TrafficStep s t where
  now := h.now
  nodeId := h.nodeId
  reserve := h.reserve
  assess := h.assess
  mgmt := h.mgmt
  critical := by rw [h.alerts]
  monitorLost := by rw [h.alerts]
  portFault := by rw [h.alerts]
  defaults := by rw [h.alerts]
  panelPort := h.panelPort
  panelSending := h.panelSending
  panelForward := h.panelForward
  panelAnswer := h.panelAnswer
  notices := h.notices
  loadState := by rw [h.loadPort]; exact ⟨rfl, rfl⟩

namespace Part

/-! ## The Roster Unit -/

/-- A change of the Roster Unit's record alone. -/
theorem setRoster_traffic (s : Part) (r : RosterUnit) : TrafficStep s { s with roster := r } := by constructor <;> simp

/-- A change of MODULE_ABSENT alone. -/
theorem setAbsent_traffic (s : Part) (b : Bool) :
    TrafficStep s { s with alerts := { s.alerts with moduleAbsent := b } } := by constructor <;> simp

theorem modRecord_traffic (s : Part) (n : NodeId) (f : PresenceRec → PresenceRec) : TrafficStep s (s.modRecord n f) := by
  constructor <;> simp

theorem testModuleAbsent_traffic (s : Part) : TrafficStep s s.testModuleAbsent := by constructor <;> simp

theorem queueRound_traffic (s : Part) : TrafficStep s s.queueRound := by constructor <;> simp [queueRound]

theorem askRound_traffic (s : Part) : TrafficStep s s.askRound := by
  unfold askRound; split
  · exact queueRound_traffic s
  · constructor <;> simp

theorem queueOpenset_traffic (s : Part) : TrafficStep s s.queueOpenset := by constructor <;> simp [queueOpenset]

theorem askOpenset_traffic (s : Part) : TrafficStep s s.askOpenset := by
  unfold askOpenset; split
  · exact queueOpenset_traffic s
  · constructor <;> simp

/-- While the Load Port is in FAULT the first round asks for no slot. -/
theorem askFirst_traffic (s : Part) : TrafficStep s s.askFirst := by
  unfold askFirst; split
  · exact .refl s
  · exact askRound_traffic s

theorem requestCensus_traffic (s : Part) : TrafficStep s s.requestCensus := by
  unfold requestCensus; split
  · exact TrafficStep.trans (t := { s with roster := _ }) (by constructor <;> simp) (askFirst_traffic _)
  · exact .refl s

theorem hearing_traffic (s : Part) (n : NodeId) : TrafficStep s (s.hearing n) := by
  unfold hearing
  split
  · exact .refl s
  · rename_i r _
    simp only
    have h := modRecord_traffic s n
      fun r => { r with state := .present, unanswered := 0, silenceAt := some (s.now + Config.silenceMs) }
    split
    · exact h
    · exact h
    · exact h.trans (notify_step ..).traffic
    · exact ((h.trans (markReturned_step _ n).traffic).trans (notify_step ..).traffic).trans (testModuleAbsent_traffic _)

theorem enterAbsent_traffic (s : Part) (n : NodeId) (k : Nat) : TrafficStep s (s.enterAbsent n k) := by
  have h := ((modRecord_traffic s n fun r => { r with state := .absent, unanswered := k, silenceAt := none }).trans
    (markUnreachable_step _ n).traffic).trans (notify_step _ (.module n .absent)).traffic
  exact h.trans (setAbsent_traffic _ true)

theorem countUnanswered_traffic (s : Part) (n : NodeId) : TrafficStep s (s.countUnanswered n) := by
  unfold countUnanswered
  split
  · exact .refl s
  · simp only
    split
    · exact enterAbsent_traffic ..
    · exact modRecord_traffic ..

theorem presenceOutcome_traffic (s : Part) (t : Option NodeId) (o : CmdOutcome) :
    TrafficStep s (s.presenceOutcome t o) := by
  unfold presenceOutcome
  split
  · exact .refl s
  · exact .refl s
  · exact countUnanswered_traffic ..
  · exact hearing_traffic ..
  · exact hearing_traffic ..

theorem silenceExpiry_traffic (s : Part) (n : NodeId) : TrafficStep s (s.silenceExpiry n) := by
  unfold silenceExpiry
  split
  · exact .refl s
  · split
    · exact ((modRecord_traffic ..).trans (notify_step ..).traffic).trans (requestCensus_traffic _)
    · exact .refl s

theorem testUnlisted_traffic (s : Part) (n : NodeId) : TrafficStep s (s.testUnlisted n) := by
  unfold testUnlisted; split
  · exact .refl s
  · constructor <;> simp

theorem rollId_traffic (s : Part) (n : NodeId) : TrafficStep s (s.rollId n) :=
  (hearing_traffic ..).trans (testUnlisted_traffic ..)

theorem rollAll_traffic (s : Part) (l : List NodeId) : TrafficStep s (s.rollAll l) := TrafficStep.foldl rollId_traffic l s

theorem censusId_traffic (s : Part) (n : NodeId) : TrafficStep s (s.censusId n) :=
  TrafficStep.trans (t := { s with roster := _ }) (by constructor <;> simp) (rollId_traffic ..)

theorem endCensus_traffic (s : Part) : TrafficStep s s.endCensus := by
  unfold endCensus
  have h : ∀ l : List NodeId, TrafficStep s (l.foldl (fun s n =>
      match s.record n with
      | none => s
      | some r =>
        if (r.state = .expected ∨ r.state = .silent) ∧ !s.roster.answered.contains n then s.enterAbsent n 0 else s) s) := by
    refine fun l => TrafficStep.foldl (fun s n => ?_) l s
    split
    · exact .refl s
    · split
      · exact enterAbsent_traffic ..
      · exact .refl s
  extract_lets s1 r s2
  have k : TrafficStep s s2 := (h _).trans (setRoster_traffic s1 _)
  split
  · exact k.trans (requestCensus_traffic _)
  · exact k

theorem censusRoundDone_traffic (s : Part) (ids : List NodeId) : TrafficStep s (s.censusRoundDone ids) := by
  have h := TrafficStep.foldl censusId_traffic ids s
  unfold censusRoundDone
  simp only
  split
  · exact h.trans (askRound_traffic _)
  · exact h.trans (endCensus_traffic _)

theorem endOpening_traffic (s : Part) : TrafficStep s s.endOpening := by
  unfold endOpening; split
  · constructor <;> simp
  · exact TrafficStep.trans (t := { s with roster := _ }) (by constructor <;> simp) (askOpenset_traffic _)

theorem opensetDone_traffic (s : Part) (ids : List NodeId) : TrafficStep s (s.opensetDone ids) := by
  unfold opensetDone
  extract_lets s1 opened r s2
  have k : TrafficStep s s2 := (rollAll_traffic s ids).trans (setRoster_traffic s1 _)
  exact (k.trans (ChannelStep.forEach (fun s c => openingResult_step s c _) _ _).traffic).trans (endOpening_traffic _)

theorem takeOut_traffic (s : Part) : TrafficStep s s.takeOut :=
  TrafficStep.trans (t := { s with roster := _ }) (by constructor <;> simp)
    (ChannelStep.forEach (fun s c => openingResult_step s c false) _ _).traffic

theorem handOpening_traffic (s : Part) (cs : List Channel) : TrafficStep s (s.handOpening cs) := by
  unfold handOpening
  split
  · exact .refl s
  · simp only
    split
    · exact TrafficStep.trans (t := { s with roster := _ }) (by constructor <;> simp) (askOpenset_traffic _)
    · constructor <;> simp
    · constructor <;> simp

theorem channelCriticalEntry_traffic (s : Part) : TrafficStep s s.channelCriticalEntry := by
  unfold channelCriticalEntry
  refine TrafficStep.trans (TrafficStep.trans (TrafficStep.trans (t := { s with overrides := _ })
    (by constructor <;> simp) (ChannelStep.forEach (criticalMove_step _) _ _).traffic)
    (ChannelStep.forEach (criticalContext_step _) _ _).traffic) (handOpening_traffic ..)

/-! ## The Load Port -/

theorem loadFree_traffic (s : Part) : TrafficStep s s.loadFree := by constructor <;> simp [loadFree]

theorem grant_traffic (s : Part) : TrafficStep s s.grant := by
  unfold grant
  repeat' split
  · exact queueOpenset_traffic s
  · exact queueRound_traffic s
  · exact .refl s
  · exact TrafficStep.trans (t := { s with load := _ }) (by constructor <;> simp) (enqueue_step ..).traffic
  · exact .refl s

theorem depart_traffic (s : Part) : TrafficStep s s.depart :=
  TrafficStep.trans (t := { s with load := _ }) (by constructor <;> simp) (grant_traffic _)

theorem handOver_traffic (s : Part) (f : Part → Part) (h : ∀ s, TrafficStep s (f s)) : TrafficStep s (s.handOver f) :=
  (TrafficStep.trans (t := { s with load := _ }) (by constructor <;> simp) (h _)).trans (depart_traffic _)

theorem finish_traffic (s : Part) (f : Part → Part) (h : ∀ s, TrafficStep s (f s)) : TrafficStep s (s.finish f) :=
  (loadFree_traffic s).trans (handOver_traffic _ f h)

theorem requesterOutcome_traffic (s : Part) (e : EngEntry) (o : CmdOutcome) :
    TrafficStep s (s.requesterOutcome e o) := by
  unfold requesterOutcome
  split
  · exact (terminalOutcome_step ..).traffic
  · exact (stopreqOutcome_step ..).traffic
  · exact (restoreOutcome_step ..).traffic
  · exact (endRestoring_step ..).traffic
  · exact (boostOutcome_step ..).traffic
  · exact (resendOutcome_step ..).traffic
  · exact censusRoundDone_traffic ..
  · exact opensetDone_traffic ..
  · exact .refl s

theorem withdraw_traffic (s : Part) (e : EngEntry) : TrafficStep s (s.withdraw e) :=
  handOver_traffic s _ fun _ => (presenceOutcome_traffic ..).trans (requesterOutcome_traffic ..)

theorem finishWith_traffic (s : Part) (e : EngEntry) (o : CmdOutcome) : TrafficStep s (s.finishWith e o) :=
  finish_traffic s _ fun _ => (presenceOutcome_traffic ..).trans (requesterOutcome_traffic ..)

theorem dropForward_traffic (s : Part) : TrafficStep s s.dropForward := by constructor <;> simp [dropForward, loadFree]

theorem startPause_traffic (s : Part) : TrafficStep s s.startPause := by
  unfold startPause; simp only
  split <;> constructor <;> simp [loadFree]

theorem attemptFails_traffic (s : Part) : TrafficStep s s.attemptFails := by
  unfold attemptFails
  repeat' split
  all_goals first
    | exact .refl s
    | exact finishWith_traffic ..
    | exact startPause_traffic s
    | exact (dropForward_traffic s).trans (presenceOutcome_traffic ..)
    | exact dropForward_traffic s

theorem verdictEnd_traffic (s : Part) (w : Purpose → Bool) (a : List Byte) : TrafficStep s (s.verdictEnd w a) := by
  unfold verdictEnd
  repeat' split
  all_goals first
    | exact .refl s
    | exact finishWith_traffic ..

theorem rollEnd_traffic (s : Part) (w : Purpose → Bool) (f : Part → List NodeId → Part) (a : List Byte)
    (h : ∀ s ids, TrafficStep s (f s ids)) : TrafficStep s (s.rollEnd w f a) := by
  unfold rollEnd
  repeat' split
  all_goals first
    | exact .refl s
    | exact finish_traffic s _ fun s => h s _

theorem forwardEnd_traffic (s : Part) (a : List Byte) : TrafficStep s (s.forwardEnd a) := by
  unfold forwardEnd
  repeat' split
  all_goals first
    | exact .refl s
    | exact (dropForward_traffic s).trans (presenceOutcome_traffic ..)
    | exact (dropForward_traffic s).trans (rollAll_traffic ..)

theorem collectAnswer_traffic (s : Part) (f : Frame) (roll : List Byte) : TrafficStep s (s.collectAnswer f roll) := by
  unfold collectAnswer
  split
  · exact rollAll_traffic ..
  · exact .refl s

theorem brokenAttempt_traffic (s : Part) (r : List Byte) : TrafficStep s (s.brokenAttempt r) := by
  unfold brokenAttempt
  repeat' split
  all_goals first
    | exact .refl s
    | exact attemptFails_traffic s
    | exact finish_traffic s _ fun s => censusRoundDone_traffic s _
    | exact finish_traffic s _ fun s => opensetDone_traffic s _
    | exact (dropForward_traffic s).trans (rollAll_traffic ..)

theorem testHeads_traffic (n : Nat) (s : Part) : TrafficStep s (testHeads n s) := by
  induction n generalizing s with
  | zero => exact .refl s
  | succ n ih =>
    unfold testHeads
    split
    · split
      · exact .refl s
      · split
        · simp only
          split
          · exact ((takeOut_traffic s).trans (withdraw_traffic ..)).trans (ih _)
          · exact takeOut_traffic s
        · split
          · exact (withdraw_traffic ..).trans (ih _)
          · exact .refl s
    · exact .refl s

theorem beginAttempt_traffic (s : Part) : TrafficStep s s.beginAttempt := by
  unfold beginAttempt; split <;> constructor <;> simp

theorem loadSend_traffic (s : Part) : TrafficStep s s.loadSend := by
  unfold loadSend; simp only
  repeat' split
  · exact (testHeads_traffic ..).trans (beginAttempt_traffic _)
  · exact testHeads_traffic ..
  · exact .refl s

theorem loadSent_traffic (s : Part) : TrafficStep s s.loadSent := by
  unfold loadSent
  repeat' split
  all_goals first | exact .refl s | exact dropForward_traffic s

theorem noAnswer_traffic (s : Part) : TrafficStep s s.noAnswer := by
  unfold noAnswer; split
  · exact startPause_traffic s
  · exact .refl s

end Part

end Sys2Proof.Machine
end

