-- ==== Sys2Proof/Tests/Slice0.lean ====
section
/-! SUPPORT. Own tests: the smoke test of the well-formedness checks, small tests whose expected values are the
spec's, and for each statement with hypotheses a state that meets them. -/

open Sys2Proof Sys2Proof.Machine Sys2Proof.Claims

namespace Sys2Proof.Tests

-- One test after another: side by side they take more threads than the check's limit on memory allows.
set_option Elab.async false

/-! ## Helpers -/

/-- The part after a command. -/
def after (i : Instr) (s : State) : Part :=
  match exec i s with
  | .next t => t.toPart
  | _ => s.toPart

/-- A header whose source is this node. -/
def from' (n : NodeId) : Head := { prio := 1, long := false, spare := 0, source := n }

/-- The same with the long mark. -/
def long (n : NodeId) : Head := { prio := 1, long := true, spare := 0, source := n }

/-- Both ports ACTIVE and the store read ended. -/
def awake : State :=
  { State.reset with
    load := { State.reset.load with port := activeCore }
    panel := { State.reset.panel with port := activeCore }
    mgmt := { State.reset.mgmt with reading := false } }

/-- `s` with this record for one channel. -/
def chan (s : State) (c : Channel) (r : ChanRec) : State := { s with chans := s.chans.set c r }

/-- A channel's record in a state, with this intent. -/
def inState (x : ChanState) (w : Option Intent) : ChanRec := { ChanRec.atReset with state := x, intent := w }

/-- Another Reserve Unit, another Assessment Unit, other settings. -/
def withReserve (s : State) (f : ReserveUnit → ReserveUnit) : State := { s with reserve := f s.reserve }
def withAssess (s : State) (f : AssessUnit → AssessUnit) : State := { s with assess := f s.assess }
def withSetting (s : State) (i : Fin 24) (v : Nat) : State :=
  { s with mgmt := { s.mgmt with active := { s.mgmt.active with
      settings := { s.mgmt.active.settings with val := s.mgmt.active.settings.val.set i v } } } }

/-- An engine frame, its first attempt not begun. -/
def eng (b : EngBody) (p : Purpose) (attempts : Nat) : EngEntry :=
  { body := b, purpose := p, tie := none, attempts := attempts, pauseEnd := none, leaving := false }

/-- A forwarded frame for channel 0. -/
def fwd (attempts : Nat) : FwdEntry :=
  { frame := switchTo (from' 0x30) 0 [0x00], tie := some 0x20, attempts := attempts, pauseEnd := none }

/-- `awake` with this engine frame on the bus. -/
def onBus (e : EngEntry) : State := { awake with load := { awake.load with engine := [e], sending := some .engine } }

/-- The channel record of a context. -/
def ctx (p : Programme) (k : Nat) (a : Awaited) (d : Option Nat) : Context :=
  { id := 0, prog := p, index := k, deadline := d, requestSent := false, awaited := a }

/-- `s` with this context for one channel. -/
def running (s : State) (c : Channel) (x : Context) : State := { s with ctxs := s.ctxs.set c (some x) }

/-! ## Well-formedness: for each check a command that it refuses, beside one that it allows -/

/-- `n` zero bytes. -/
def zeros (n : Nat) : List Byte := List.replicate n 0

theorem smoke_roll_of_thirteen :
    (Instr.symbolViolation 0 .load (zeros 13)).wf = false ∧ (Instr.symbolViolation 0 .load (zeros 12)).wf = true ∧
    (Instr.censusRoundEnd 0 (zeros 13)).wf = false ∧ (Instr.opensetEnd 0 (zeros 13)).wf = false := by decide +kernel

theorem smoke_mismatch_of_good_frame :
    (Instr.checkByteMismatch 0 .panel (switchTo (from' 0x30) 0 [0x00]).toBytes).wf = false ∧
    (Instr.checkByteMismatch 0 .panel (zeros 69)).wf = false ∧ (Instr.checkByteMismatch 0 .panel (zeros 3)).wf = true := by
  decide +kernel

theorem smoke_data_over_limit :
    (Instr.sample 0 (from' 0x18) 0x7F (zeros 9)).wf = false ∧ (Instr.sample 0 (long 0x18) 0x7F (zeros 64)).wf = true ∧
    (Instr.sample 0 (long 0x18) 0x7F (zeros 65)).wf = false ∧ (Instr.report 0 (from' 0x20) 0x7F (zeros 9)).wf = false ∧
    (Instr.switchMalformed 0 (from' 0x30) 0 (zeros 9)).wf = false := by decide +kernel

/-- A frame of this kind and target with this data. -/
def frame (k : BitVec 6) (t : BitVec 7) (d : List Byte) : Frame := { head := from' 0x30, kind := k, target := t, data := d }

/-- A frame that arrives on the load segment with no answer. -/
def bare (f : Frame) : LoadArrival := { frame := f, roll := [] }

theorem smoke_frame_of_another_row :
    (Instr.loadFrameArrival 0 (bare (frame kindSample 0x7F (zeros 5)))).wf = false ∧
    (Instr.loadFrameArrival 0 (bare (frame kindReport 0x7F (zeros 7)))).wf = false ∧
    (Instr.loadFrameArrival 0 (bare (frame kindNotice 0x7F (zeros 9)))).wf = false ∧
    (Instr.panelFrameArrival 0 (frame kindSwitch 0x6F [0])).wf = false ∧
    (Instr.panelFrameArrival 0 (frame kindNotice 0x6F (zeros 9))).wf = false ∧
    (Instr.panelFrameArrival 0 (frame kindSwitch 0x20 [0])).wf = true := by decide +kernel

theorem smoke_roll_of_an_arrival :
    (Instr.loadFrameArrival 0 ⟨frame kindCensus 0x7F (zeros 8), zeros 12⟩).wf = true ∧
    (Instr.loadFrameArrival 0 ⟨frame kindCensus 0x7F (zeros 8), zeros 13⟩).wf = false ∧
    (Instr.loadFrameArrival 0 ⟨frame kindNotice 0x7F [], zeros 1⟩).wf = false := by decide +kernel

theorem smoke_switch_arguments :
    (Instr.panelSwitchLevel 0 (from' 0x30) 0 0).wf = false ∧ (Instr.panelSwitchLevel 0 (from' 0x30) 0 101).wf = false ∧
    (Instr.panelSwitchLevel 0 (from' 0x30) 0 100).wf = true ∧ (Instr.boost 0 (from' 0x30) 0 0).wf = false ∧
    (Instr.switchMalformed 0 (from' 0x30) 0 [0x00]).wf = false ∧
    (Instr.switchMalformed 0 (from' 0x30) 0 [0x03, 1]).wf = false ∧
    (Instr.switchMalformed 0 (from' 0x30) 0 [0x02, 101]).wf = true := by decide +kernel

theorem smoke_management_data_over_limit :
    ([Instr.load 0 (from' 0x30) (zeros 8), .commit 0 (from' 0x30) (zeros 8), .discard 0 (from' 0x30) (zeros 8),
      .read 0 (from' 0x30) (zeros 8), .status 0 (from' 0x30) (zeros 8), .channel 0 (from' 0x30) (zeros 8),
      .limits 0 (from' 0x30) (zeros 8), .setReserve 0 (from' 0x30) (zeros 8), .census 0 (from' 0x30) (zeros 8),
      .release 0 (from' 0x30) (zeros 8), .retain 0 (from' 0x30) (zeros 8), .restart 0 (from' 0x30) (zeros 8),
      .mgmtBadRequest 0 (from' 0x30) (zeros 9)]).all (fun i => !i.wf) = true := by decide +kernel

theorem smoke_bad_request_with_a_code :
    (Instr.mgmtBadRequest 0 (from' 0x30) [0x01]).wf = false ∧ (Instr.mgmtBadRequest 0 (from' 0x30) [0x0C]).wf = false ∧
    (Instr.mgmtBadRequest 0 (from' 0x30) [0x0D]).wf = true ∧ (Instr.mgmtBadRequest 0 (from' 0x30) []).wf = true := by
  decide +kernel

/-! ## Small tests, with the spec's values -/

/-- The table gives no row any bits. -/
theorem test_no_word_spells_a_command : decodeTableWord 8 1 = none ∧ (State.reset.withFetchWord 8 1) = State.reset :=
  ⟨rfl, rfl⟩

/-- R135 by hand: 0xFF leaves the register 0; 0xFE leaves 0x01, whose bit comes out at the eighth step. -/
theorem test_check_byte : crc8 [0xFF] = 0x00 ∧ crc8 [0xFE] = 0x07 := by decide +kernel

/-- R181 by hand: 0xFF leaves 0x00FF, shifted up by 8; 0xFE leaves 0x01FF, whose ninth bit comes out at the eighth step. -/
theorem test_check_word : crc16 [0xFF] = 0xFF00 ∧ crc16 [0xFE] = 0xEF21 := by decide +kernel

/-- The header of 7.8: priority above kind, the long mark above the target. -/
theorem test_header_bytes : (switchTo (from' 0x30) 47 [0x01]).headerBytes = [0x41, 0x6F, 0x30] := by decide +kernel

/-- R149: channel 0 is the most significant bit of byte 0, channel 47 the least significant bit of byte 5. -/
theorem test_channel_set : channelSet [0, 47] = [0x80, 0, 0, 0, 0, 0x01] := by decide +kernel

/-- The worked example of 01: a 200 Ah bank, Rint 60. -/
def bank (r : ReserveUnit → ReserveUnit) : State := withReserve (withSetting (withSetting awake 0 200) 2 60) r

/-- 01, worked example, sample 2: 42.5 A for 103 ms. -/
theorem test_sample_counts_discharge :
    (after (.sample 103 (from' 0x18) 0x7F [18, 0x30, 0xC0, 0x10, 0x9A]) (bank fun r =>
      { r with reserve := 360000000, valid := true, seed := false, lastArrival := some 0, monitor := .fresh
               vf := 12735, cur := 4250 })).reserve.reserve = 359995623 := by decide +kernel

/-- 01, worked example, sample 4: 18 A of charge for 101 ms, and both filters. -/
theorem test_sample_counts_charge :
    let r := (after (.sample 101 (from' 0x18) 0x7F [20, 0x34, 0x26, 0xF8, 0xF8]) (bank fun r =>
      { r with reserve := 359991500, valid := true, seed := false, lastArrival := some 0, monitor := .fresh
               vf := 12735, cur := 4250 })).reserve
    r.reserve = 359993299 ∧ r.residue = -82 ∧ r.vf = 12798 ∧ r.cur = 3872 := by decide +kernel

/-- 01, worked example: the count saturates at the capacity. -/
theorem test_sample_saturates :
    let r := (after (.sample 100 (from' 0x18) 0x7F [1, 0x37, 0xB4, 0xF8, 0x30]) (bank fun r =>
      { r with reserve := 719999990, residue := 30, valid := true, seed := false, lastArrival := some 0, monitor := .fresh
               vf := 14260 })).reserve
    r.reserve = 720000000 ∧ r.residue = 0 := by decide +kernel

/-- 01, worked example: the runtime at the first assessment is 84 minutes (floor 200). -/
theorem test_assessment_runtime :
    (after (.assessment 1000) (withSetting (bank fun r =>
      { r with reserve := 359991500, valid := true, monitor := .fresh, vf := 12735, cur := 4250 }) 5 200)).reserve.runtime
      = some 84 := by decide +kernel

/-- 09, worked example: entry 2 with depth 6 above entry 1's 5 is refused as table 1, index 2, reason 5. -/
theorem test_commit_refuses_rising_band :
    (after (.commit 0 (from' 0x30) []) (State.mk { awake.toPart with mgmt := { awake.mgmt with shadow :=
      { awake.mgmt.shadow with bands := #v[⟨7, 0, 80⟩, ⟨5, 0, 150⟩, ⟨6, 0, 250⟩, ⟨1, 0, 350⟩, ⟨0, 0, 1000⟩, ⟨0, 0, 0⟩,
        ⟨0, 0, 0⟩, ⟨0, 0, 0⟩] } } } [])).panel.answer = .data [6, 1, 2, 5] := by decide +kernel

/-- 09, worked example: the LOAD of the fridge's record is CLAMPED, WAIT_IDLE to 600 s and the dim level to 1. -/
theorem test_load_clamps :
    let t := after (.load 0 (long 0x30) [2, 20, 1, 3, 2, 0x03, 0x84, 6, 0, 0, 0, 0, 0, 0, 0, 0, 0, 0, 180, 5, 0x80, 30]) awake
    t.panel.answer = .data [1] ∧ t.mgmt.shadow.channels[(20 : Channel)].steps[(0 : Fin 4)].arg = 600 ∧
    t.mgmt.shadow.channels[(20 : Channel)].dim = 1 ∧ t.mgmt.shadow.channels[(20 : Channel)].minOff = 180 := by
  decide +kernel

/-! ## States that meet the hypotheses of the statements -/

/-- The state of the tests on invariants: channel 3 SHEDDING, channel 5 OVERRIDDEN, an assessment waiting. -/
def busy : State :=
  { chan (chan (running awake 3 (ctx defaultProgramme 0 .terminal none)) 3 (inState .shedding (some .on))) 5
      (inState .overridden (some .on)) with
    seq := { awake.seq with list := [3] }
    overrides := awake.overrides.set 0 (some { ch := 5, expiry := 60000, deadline := none })
    reserve := { awake.reserve with reserve := 1, residue := -99, valid := true, runtime := some 65535, critCount := 20 }
    load := { awake.load with engine := [eng (.switchOff 3) (.terminal 0) 2], engineCount := 4 }
    pending := [.assessment 1000] }

theorem witness_StepCarriesOutFront : busy.pending = .assessment 1000 :: [] := rfl

/-- `State.reset` at another time. -/
def idleAt (n : Nat) : State := { State.reset with now := n }

theorem witness_IdleMillisecond :
    (idleAt 999).pending = [] ∧ (tick (idleAt 999)).pending = [.assessment 0] ∧ (tick (idleAt 998)).pending = [] := by
  decide +kernel

/-- Every intent LEVEL n of the state lies in 1..99. -/
def levelsGood (s : State) : Bool :=
  s.chans.toList.all fun r => match r.intent with
    | some (.level n) => decide (1 ≤ n ∧ n ≤ 99)
    | _ => true

theorem intentsSound_of_levelsGood (s : State) (h : levelsGood s = true) : IntentsSound s.toPart := by
  refine ⟨fun c n e => ?_⟩
  have k := List.all_eq_true.mp h s.chans[c] (by simp)
  replace k : (match s.chans[c].intent with | some (.level n) => decide (1 ≤ n ∧ n ≤ 99) | _ => true) = true := k
  rw [e] at k
  simpa using k

theorem witness_QueuesStayBounded : QueuesBounded busy.toPart ∧ ∃ t, step busy = .next t :=
  ⟨⟨by decide, by decide, by decide, by decide, by decide, by decide +kernel⟩, _, rfl⟩

theorem witness_ReserveStaysSound : ReserveSound busy.toPart ∧ ∃ t, step busy = .next t := by
  refine ⟨⟨by decide +kernel, by decide, by decide, by decide, by decide, fun m h => ?_, by decide⟩, _, rfl⟩
  have e : some 65535 = some m := h
  cases e; decide

theorem witness_AlertsStayInAgreement : AlertsAgree busy.toPart ∧ ∃ t, step busy = .next t :=
  ⟨⟨by decide, by decide, by decide +kernel, by decide⟩, _, rfl⟩

theorem witness_ChannelsStayInAgreement : ChannelsAgree busy.toPart ∧ ∃ t, step busy = .next t :=
  ⟨⟨by decide +kernel, by decide +kernel, by decide +kernel, by decide +kernel, by decide +kernel⟩, _, rfl⟩

/-- A census round and the OPENSET stand in the queue; or both await a slot behind seven other frames. -/
def rostered (queued : Bool) : State :=
  let s := chan awake 9 (inState .live (some (.level 99)))
  if queued then
    { s with
      load := { s.load with engine := [eng (.census []) .census 0, eng .openset .openset 0] }
      roster := { s.roster with census := .running, round := 1, opening := .sent, openingSet := [9] }
      pending := [.loadPortSend 0] }
  else
    { s with
      load := { s.load with
        engine := List.replicate 8 (eng (.switchOff 9) .resend 0), awaitCensus := true, awaitOpenset := true }
      roster := { s.roster with census := .pending, opening := .pending, openingSet := [9] }
      pending := [.loadPortSend 0] }

theorem slots_rostered (b : Bool) : SlotsSound (rostered b).toPart := by
  cases b <;> exact ⟨by decide +kernel, by decide +kernel, by decide +kernel, by decide +kernel, by decide +kernel,
    by decide +kernel, by decide +kernel, by decide +kernel⟩

theorem witness_SlotsAndIntentsStaySound :
    (∀ b, SlotsSound (rostered b).toPart ∧ ∃ t, step (rostered b) = .next t) ∧ IntentsSound (rostered true).toPart ∧
    (rostered true).chans[(9 : Channel)].intent = some (.level 99) :=
  ⟨fun b => ⟨slots_rostered b, by cases b <;> exact ⟨_, rfl⟩⟩,
    intentsSound_of_levelsGood _ (by decide +kernel), by decide +kernel⟩

theorem witness_SequencerStaysSound : SequencerSound busy.toPart ∧ ∃ t, step busy = .next t :=
  ⟨⟨by decide, by decide⟩, _, rfl⟩

/-- Critical set at depth 7, without an override. -/
def inCritical (releaseCount vf : Nat) : State :=
  { withReserve (withAssess awake fun a => { a with critical := true, depth := 7, releaseCount := releaseCount }) fun r =>
      { r with monitor := .fresh, vf := vf } with
    alerts := { awake.alerts with critical := true }
    pending := [.assessment 1000] }

theorem ranges_inCritical : RangesSound (inCritical 60 0).toPart := by
  refine ⟨by decide +kernel, by decide +kernel, fun c h => ?_, by decide, by decide, by decide, by decide, by decide,
    by decide, by decide, by decide⟩
  have e : (none : Option StoreCopy) = some c := h
  cases e

theorem witness_RangesAndCriticalStaySound :
    RangesSound (inCritical 60 0).toPart ∧ CriticalSound (inCritical 60 0).toPart ∧
    (inCritical 60 0).assess.critical = true ∧ ∃ t, step (inCritical 60 0) = .next t :=
  ⟨ranges_inCritical, ⟨by decide, by decide, by decide +kernel⟩, rfl, _, rfl⟩

/-- The Reserve Unit in a monitor state with a last sequence. -/
def heard (m : MonitorState) (q : Option Byte) : State :=
  withReserve awake fun r => { r with monitor := m, lastSeq := q, seed := false, lastArrival := some 0 }

theorem witness_SampleIntake :
    LoadTakes (heard .fresh (some 255)) (from' 0x18) ∧ dataFits (from' 0x18) [255, 0, 0, 0, 0] = true ∧
    (heard .fresh (some 255)).reserve.lastSeq = some 255 ∧ (heard .fresh none).reserve.lastSeq ≠ some 255 ∧
    LoadTakes (heard .fresh none) (from' 0x18) ∧ dataFits (from' 0x18) (zeros 6) = true ∧
    (from' 0x18).source.toNat = (heard .fresh none).settings.monitorNode := by decide +kernel

/-- Charge counted from this reserve and residue, valid; the capacity is 100 Ah. -/
def counting (m : MonitorState) (n : Nat) (residue : Int) : State :=
  withReserve (heard m (some 0)) fun r => { r with valid := true, reserve := n, residue := residue }

theorem witness_SampleCharge :
    (∀ s ∈ [counting .lost 5 0, counting .fresh 5 99, counting .fresh 0 99, counting .fresh 360000000 (-99), heard .stale none],
      LoadTakes s (from' 0x18) ∧ (from' 0x18).source.toNat = s.settings.monitorNode ∧ s.reserve.lastSeq ≠ some 1) ∧
    (counting .fresh 5 99).reserve.lastArrival = some 0 ∧
    (after (.sample 500 (from' 0x18) 0x7F [1, 0, 0, 0, 1]) (counting .fresh 5 99)).reserve.reserve = 0 ∧
    (after (.sample 500 (from' 0x18) 0x7F [1, 0, 0, 0, 1]) (counting .fresh 5 99)).reserve.residue = 99 ∧
    (after (.sample 500 (from' 0x18) 0x7F [1, 0, 0, 0, 1]) (counting .fresh 0 99)).reserve.residue = 0 ∧
    (after (.sample 500 (from' 0x18) 0x7F [1, 0, 0, 0xFF, 0xFF]) (counting .fresh 360000000 (-99))).reserve.residue = 0 := by
  decide +kernel

/-- A sample of 11,200 mV or of 11,199 mV comes as the fifth in a low run. -/
def lowRun (critical seed : Bool) : State :=
  withAssess (withReserve (heard .fresh (some 0)) fun r => { r with critCount := 4, seed := seed, vf := 11199 }) fun a =>
    { a with critical := critical }

theorem witness_FiltersAndCriticalCount :
    (∀ s ∈ [lowRun false false, lowRun true false, lowRun false true],
      LoadTakes s (from' 0x18) ∧ (from' 0x18).source.toNat = s.settings.monitorNode ∧ s.reserve.lastSeq ≠ some 1) ∧
    (after (.sample 100 (from' 0x18) 0x7F [1, 0x2B, 0xC0, 0, 0]) (lowRun false false)).assess.critical = true ∧
    (after (.sample 100 (from' 0x18) 0x7F [1, 0x2B, 0xC0, 0, 0]) (lowRun false true)).assess.critical = false ∧
    (after (.sample 100 (from' 0x18) 0x7F [1, 0x2B, 0xC0, 0, 0]) (lowRun false true)).reserve.critCount = 0 := by
  decide +kernel

/-- A monitor state with its timers. -/
def timed (m : MonitorState) (stale lost : Option Nat) : State :=
  withReserve awake fun r => { r with monitor := m, staleAt := stale, lostAt := lost }

theorem witness_MonitorTimers :
    AlertsAgree (timed .fresh (some 2000) (some 30000)).toPart ∧
    (timed .fresh (some 2000) (some 30000)).reserve.staleAt = some 2000 ∧ 2000 ≤ awake.now + 2000 ∧
    (timed .awaiting none (some 30000)).reserve.lostAt = some 30000 ∧
    (timed .stale none (some 30000)).reserve.lostAt = some 30000 ∧ 30000 ≤ awake.now + 30000 :=
  ⟨⟨by decide, by decide, by decide +kernel, by decide⟩, by decide, by decide, by decide, by decide, by decide⟩

/-- An assessment is due 1000 ms from here, in FRESH, with this Vf and this guard. -/
def guarded (g : Guard) (count vf : Nat) : State :=
  withAssess (withReserve awake fun r => { r with monitor := .fresh, vf := vf }) fun a =>
    { a with vGuard := g, vGuardCount := count, number := 65535 }

theorem witness_NumberAndGuards :
    (∀ s ∈ [guarded .released 4 11999, guarded .released 4 12000, guarded .active 4 12300, awake],
      s.assess.timerAt ≤ s.now + 1000) ∧
    (after (.assessment 1000) (guarded .released 4 11999)).assess.number = 0 ∧
    (after (.assessment 1000) (guarded .released 4 11999)).assess.vGuard = .active ∧
    (after (.assessment 1000) (guarded .released 4 12000)).assess.vGuardCount = 0 ∧
    (after (.assessment 1000) (guarded .active 4 12300)).assess.vGuard = .released ∧
    (after (.assessment 1000) (withSetting (withSetting (counting .fresh 36010000 0) 15 10) 16 5)).assess.rGuard = .released := by
  decide +kernel

/-- The full-charge condition holds, with this count. -/
def full (n : Nat) : State :=
  withReserve awake fun r => { r with monitor := .fresh, vf := 14200, cur := -300, fullHold := n }

theorem witness_ReserveAtAssessment :
    (∀ s ∈ [full 118, full 119, counting .fresh 36000000 0, awake],
      s.assess.timerAt ≤ s.now + 1000 ∧ ¬swapsAt s) ∧
    (after (.assessment 1000) (full 118)).reserve.fullHold = 119 ∧
    (after (.assessment 1000) (full 119)).reserve.reserve = 360000000 ∧
    (after (.assessment 1000) (counting .fresh 36000000 0)).reserve.runtime = some 0 ∧
    (after (.assessment 1000) (counting .fresh 36000001 0)).reserve.runtime = some 65535 := by decide +kernel

theorem witness_Demands :
    (counting .fresh 36000000 0).assess.timerAt ≤ (counting .fresh 36000000 0).now + 1000 ∧
    (tablesAt (counting .fresh 36000000 0)).checkBands = none ∧
    (after (.assessment 1000) (counting .fresh 36000000 0)).assess.escalation = 7 ∧
    (after (.assessment 1000) (counting .fresh 36360000 0)).assess.escalation = 4 ∧
    (after (.assessment 1000) (counting .fresh 36360000 0)).assess.restore = 7 := by decide +kernel

/-- A settled Assessment Unit at this depth and restore-hold count, with a channel that is on and one that is off. -/
def settled (m : MonitorState) (reserve depth hold : Nat) : State :=
  withAssess (chan (chan (counting m reserve 0) 3 (inState .live (some .on))) 5 (inState .live (some .off))) fun a =>
    { a with unsettled := false, depth := depth, holdCount := hold, fallback := 3 }

/-- Critical is set at depth 7 and released at this assessment, which is settled. -/
def releasing (hold : Nat) : State :=
  withAssess (inCritical 9 11600) fun a => { a with unsettled := false, holdCount := hold }

theorem witness_DepthMovesWithNotice_released :
    (releasing 0).assess.timerAt ≤ (releasing 0).now + 1000 ∧ ¬swapsAt (releasing 0) ∧ clearAtMove (releasing 0) ∧
    (releasing 0).assess.critical = true ∧ (after (.assessment 1000) (releasing 0)).assess.critical = false ∧
    (after (.assessment 1000) (releasing 58)).assess.depth = 7 ∧
    (after (.assessment 1000) (releasing 58)).assess.holdCount = 59 ∧
    (after (.assessment 1000) (releasing 59)).assess.depth = 6 := by
  unfold clearAtMove; decide +kernel

theorem witness_DepthMovesWithNotice :
    (∀ s ∈ [awake, settled .stale 0 1 5, settled .lost 0 1 5, settled .lost 0 3 5, settled .fresh 0 6 5,
        settled .fresh 360000000 1 58, settled .fresh 360000000 1 59, settled .fresh 0 7 5],
      s.assess.timerAt ≤ s.now + 1000 ∧ ¬swapsAt s ∧ s.assess.critical = false ∧
      s.panel.notices.length < 4) ∧
    (after (.assessment 1000) (settled .stale 0 1 5)).assess.holdCount = 5 ∧
    (after (.assessment 1000) (settled .lost 0 1 5)).assess.depth = 3 ∧
    (after (.assessment 1000) (settled .lost 0 3 5)).assess.depth = 4 ∧
    (after (.assessment 1000) (settled .fresh 0 6 5)).assess.depth = 7 ∧
    (after (.assessment 1000) (settled .fresh 360000000 1 58)).assess.holdCount = 59 ∧
    (after (.assessment 1000) (settled .fresh 360000000 1 59)).assess.depth = 0 := by decide +kernel

theorem witness_DepthChangeMovesChannels :
    (after (.assessment 1000) (settled .fresh 0 6 5)).assess.depth = 7 ∧
    (after (.assessment 1000) (settled .fresh 0 6 5)).chans[(3 : Channel)].state = .shedding ∧
    (after (.assessment 1000) (settled .fresh 0 6 5)).chans[(5 : Channel)].state = .barred ∧
    (after (.assessment 1000) (chan (settled .fresh 360000000 7 59) 5 (inState .barred (some .on)))).assess.depth = 6 ∧
    (after (.assessment 1000) (chan (settled .fresh 360000000 7 59) 5 (inState .barred (some .on)))).chans[(5 : Channel)].state
      = .live := by decide +kernel

/-- Channel 4 SHED with an unconfirmed OPEN terminal, due for its resend. -/
def unconfirmed : State := chan awake 4 { inState .shed (some .on) with terminal := some .openOut, offSince := some 0 }

theorem witness_ResendAtAssessment :
    unconfirmed.assess.timerAt ≤ unconfirmed.now + 1000 ∧ ¬swapsAt unconfirmed ∧
    unconfirmed.assess.critical = false ∧ 1 ≤ unconfirmed.tier 4 ∧
    (after (.assessment 1000) (withAssess unconfirmed fun a => { a with critical := true, depth := 7 })).chans[(4 : Channel)].resend
      = true ∧
    (after (.assessment 1000) (withAssess unconfirmed fun a => { a with critical := true, depth := 7 })).assess.critical
      = true ∧
    (after (.assessment 1000) unconfirmed).chans[(4 : Channel)].resend = true ∧
    (after (.assessment 1000) unconfirmed).chans[(5 : Channel)].resend = false := by decide +kernel

theorem witness_CriticalRelease :
    (∀ s ∈ [inCritical 9 11600, inCritical 8 11600, inCritical 9 11599],
      s.assess.timerAt ≤ s.now + 1000 ∧ s.assess.critical = true ∧ s.alerts.critical = true) ∧
    (after (.assessment 1000) (inCritical 9 11600)).assess.critical = false ∧
    (after (.assessment 1000) (inCritical 8 11600)).assess.releaseCount = 9 ∧
    (after (.assessment 1000) (inCritical 9 11599)).assess.releaseCount = 0 := by decide +kernel

/-- A low run with channel 3 LIVE and on, protected channel 5 LIVE and off, tier 0 channel 6 LIVE. -/
def beforeCritical : State :=
  let s := chan (chan (chan (lowRun false false) 3 (inState .live (some .on))) 5 (inState .live (some .off))) 6
    (inState .live (some .on))
  { s with mgmt := { s.mgmt with active := { s.mgmt.active with
      channels := (s.mgmt.active.channels.set 5 { ChannelCfg.default with protect := true }).set 6
        { ChannelCfg.default with tier := 0 } } } }

theorem witness_CriticalEntry :
    LoadTakes beforeCritical (from' 0x18) ∧ (from' 0x18).source.toNat = beforeCritical.settings.monitorNode ∧
    beforeCritical.reserve.lastSeq ≠ some 1 ∧ ChannelsAgree beforeCritical.toPart ∧ beforeCritical.assess.depth ≤ 7 ∧
    beforeCritical.assess.critical = false ∧ beforeCritical.marked 3 = true ∧
    (after (.sample 100 (from' 0x18) 0x7F [1, 0x2B, 0xC0, 0, 0]) beforeCritical).assess.depth = 7 ∧
    (after (.sample 100 (from' 0x18) 0x7F [1, 0x2B, 0xC0, 0, 0]) beforeCritical).roster.openingSet = [3] ∧
    beforeCritical.panel.notices.length < 3 ∧
    (after (.sample 100 (from' 0x18) 0x7F [1, 0x2B, 0xC0, 0, 0]) beforeCritical).seq.list = [3] ∧
    ((after (.sample 100 (from' 0x18) 0x7F [1, 0x2B, 0xC0, 0, 0]) beforeCritical).panel.notices.map
      NoticeEntry.body).filter isDepth = [.depth 7 .critical] :=
  ⟨by decide +kernel, by decide +kernel, by decide +kernel, ⟨by decide +kernel, by decide +kernel, by decide +kernel,
    by decide +kernel, by decide +kernel⟩, by decide +kernel⟩

/-- The applied depth is 7, so that every managed channel of tier 1 or more is in the shed zone. -/
def deep (s : State) : State := withAssess s fun a => { a with depth := 7 }

theorem witness_Reports :
    (∀ s ∈ [awake, deep awake, deep (chan awake 0 (inState .barred (some .off))), chan awake 0 (inState .live none),
        chan awake 0 { inState .shed none with terminal := some .openOut }],
      LoadTakes s (from' 0x20) ∧ s.owner 0 = some 0x20 ∧ s.nodeAbsent (some 0x20) = false) ∧
    awake.chans[(0 : Channel)].state = .unknown ∧ (100 : Byte).toNat ≤ 100 ∧
    (deep awake).inZone 0 = true ∧ awake.inZone 0 = false ∧
    (after (.report 0 (from' 0x20) 0x7F [0, 1, 0, 0, 0xFF, 0, 0]) (deep awake)).chans[(0 : Channel)].state = .shedding ∧
    (after (.report 0 (from' 0x20) 0x7F [0, 0, 0, 0, 0xFF, 0, 0]) (deep awake)).chans[(0 : Channel)].state = .barred ∧
    (after (.report 0 (from' 0x21) 0x7F [0, 0, 0, 0, 0xFF, 0, 0]) (deep awake)).chans[(0 : Channel)].state = .unknown ∧
    (after (.report 0 (from' 0x20) 0x7F [0, 1, 0, 0, 0xFF, 0, 0])
      (chan awake 0 { inState .shed none with terminal := some .openOut })).chans[(0 : Channel)].resend = true ∧
    (after (.report 0 (from' 0x20) 0x7F [0, 1, 0, 0, 0xFF, 0, 0])
      (chan awake 0 { inState .shed none with terminal := some .openOut })).load.engine.map EngEntry.body
      = [.switchOff 0] := by
  decide +kernel

/-- R78: a BARRED channel of tier 0 that reports output takes its intent, and enters no programme. -/
theorem witness_Reports_tierless :
    let s : State := deep { chan awake 0 (inState .barred (some .off)) with mgmt := { awake.mgmt with
      active := { awake.mgmt.active with
        channels := awake.mgmt.active.channels.set 0 { ChannelCfg.default with tier := 0 } } } }
    let t := after (.report 0 (from' 0x20) 0x7F [0, 1, 0, 0, 0xFF, 0, 0]) s
    s.tier 0 = 0 ∧ t.chans[(0 : Channel)].state = .barred ∧ t.chans[(0 : Channel)].intent = some (.level 1) ∧
    t.seq.list = [] ∧ t.ctxs[(0 : Channel)] = none ∧ t.load.engine = [] := by decide +kernel

/-- The load forward queue holds this many frames. -/
def forwarding (s : State) (n : Nat) : State := { s with load := { s.load with forward := List.replicate n (fwd 0) } }

theorem witness_SwitchOffTable :
    ∀ x ∈ [ChanState.unknown, .live, .shedding, .shed, .barred, .restoring, .overridden, .released],
      PanelTakes (forwarding (chan awake 47 (inState x none)) 7) (from' 0x30) ∧
      (forwarding (chan awake 47 (inState x none)) 7).load.forward.length < 8 := by decide +kernel

theorem witness_SwitchOnAndLevelTable :
    PanelTakes (forwarding (chan awake 47 (inState .barred none)) 8) (from' 0x30) ∧
    heldIn (forwarding (chan awake 47 (inState .barred none)) 8).chans[(47 : Channel)].state = true ∧
    (forwarding (chan awake 47 (inState .live none)) 7).load.forward.length < 8 ∧ 1 ≤ (1 : Byte).toNat ∧
    (100 : Byte).toNat ≤ 100 ∧
    (after (.panelSwitchLevel 0 (from' 0x30) 47 100) (chan awake 47 (inState .live none))).chans[(47 : Channel)].intent
      = some .on ∧
    (after (.panelSwitchLevel 0 (from' 0x30) 47 1) (deep (chan awake 47 (inState .barred none)))).chans[(47 : Channel)].state
      = .shed := by decide +kernel

/-- Channel 47 BARRED since 0 outside the shed zone, with a minimum off time of 5 s, in this sequencer state. -/
def barredOut (x : SeqState) : State :=
  let s := chan awake 47 { inState .barred (some .off) with offSince := some 0 }
  { s with
    seq := { s.seq with state := x }
    mgmt := { s.mgmt with active := { s.mgmt.active with
      channels := s.mgmt.active.channels.set 47 { ChannelCfg.default with minOff := 5 } } } }

/-- In IDLE the pick of a held ON takes the channel once its minimum off time has passed; in SPACING none is made. -/
theorem witness_SwitchOnAndLevelTable_picks :
    (barredOut .idle).chans[(47 : Channel)].state = .barred ∧ (barredOut .idle).seq.state = .idle ∧
    (heldOn (barredOut .idle) 5000 47 (.level 1)).seq.list.find? (eligibleIn (heldOn (barredOut .idle) 5000 47 (.level 1)))
      = some 47 ∧
    (after (.panelSwitchLevel 5000 (from' 0x30) 47 1) (barredOut .idle)).chans[(47 : Channel)].state = .restoring ∧
    (after (.panelSwitchLevel 5000 (from' 0x30) 47 1) (barredOut .idle)).load.engine.map EngEntry.body
      = [.switchLevel 47 1] ∧
    (after (.panelSwitchLevel 5000 (from' 0x30) 47 1) (barredOut .idle)).panel.answer = .verdict 0x11 ∧
    (after (.panelSwitchOn 4999 (from' 0x30) 47) (barredOut .idle)).chans[(47 : Channel)].state = .shed ∧
    (after (.panelSwitchOn 5000 (from' 0x30) 47) (barredOut .spacing)).chans[(47 : Channel)].state = .shed := by
  decide +kernel

theorem witness_BusyAndMalformed :
    PanelTakes (forwarding awake 8) (from' 0x30) ∧ 8 ≤ (forwarding awake 8).load.forward.length ∧
    heldIn (forwarding awake 8).chans[(0 : Channel)].state = false ∧
    dataFits (from' 0x30) (zeros 8) = true ∧ switchMalformed (zeros 8) = true ∧ switchMalformed [0x03, 0] = true ∧
    (forwarding (chan awake 0 (inState .released none)) 7).chans[(0 : Channel)].state = .released := by decide +kernel

/-- Channel 9 may be boosted, and is in this state; channels 10 to 13 hold the override table when it is full. -/
def boostable (x : ChanState) (r : ChanRec → ChanRec) (taken : Vector (Option Override) 4) : State :=
  let s := chan awake 9 (r (inState x (some .off)))
  { s with
    overrides := taken
    mgmt := { s.mgmt with active := { s.mgmt.active with
      channels := s.mgmt.active.channels.set 9 { ChannelCfg.default with boostOk := true, minOff := 5, boostMax := 60 } } } }

/-- An override entry. -/
def held (c : Channel) : Option Override := some { ch := c, expiry := 60000, deadline := none }

theorem witness_BoostGranted :
    PanelTakes (boostable .overridden id #v[held 10, held 11, held 12, held 9]) (from' 0x30) ∧ (1 : Byte) ≠ 0 ∧
    boostMeets (boostable .overridden id #v[held 10, held 11, held 12, held 9]) 9 ∧
    boostMeets (boostable .shed id #v[held 10, none, held 12, none]) 9 ∧
    ¬boostMeets (boostable .shed id #v[held 10, held 11, held 12, held 13]) 9 ∧
    (after (.boost 0 (from' 0x30) 9 255) (boostable .overridden id #v[held 10, held 11, held 12, held 9])).overrides[(3 : Fin 4)]
      = some { ch := 9, expiry := 3600000, deadline := none } := by
  unfold boostMeets; decide +kernel

theorem witness_BoostGranted_intents :
    IntentsSound (boostable .shed (fun r => { r with intent := some (.level 1) }) #v[none, none, none, none]).toPart ∧
    (after (.boost 0 (from' 0x30) 9 1)
      (boostable .shed (fun r => { r with intent := some (.level 1) }) #v[none, none, none, none])).chans[(9 : Channel)].intent
      = some (.level 1) :=
  ⟨intentsSound_of_levelsGood _ (by decide +kernel), by decide +kernel⟩

/-- Slot 0 of this kind, then HOLD, then OPEN. -/
def slots (k : StepKind) : Programme := #v[⟨k, 600⟩, ⟨.hold, 1⟩, ⟨.openOut, 0⟩, ⟨.none, 0⟩]

/-- `boostable` with the channel in the shed list where its state is SHEDDING or SHED. -/
def boostableListed (x : ChanState) (r : ChanRec → ChanRec) (cx : Option Context) : State :=
  let s := boostable x r #v[none, none, none, none]
  { s with seq := { s.seq with list := [9] }, ctxs := s.ctxs.set 9 cx }

/-- The forms that need a switch-on, and one that needs none, of each state that BOOST finds. -/
def boostForms : List State :=
  let noneHeld : Vector (Option Override) 4 := #v[none, none, none, none]
  let stopping := ctx (slots .stopAsk) 0 .stopreq none
  [boostableListed .shed (fun r => { r with offSince := some 0 }) none, boostable .barred id noneHeld,
    boostableListed .shedding id (some { stopping with requestSent := true }),
    boostableListed .shedding (fun r => { r with inFlight := true }) (some stopping),
    boostableListed .shedding (fun r => { r with level := some 0 }) (some stopping),
    withEngine (boostable .restoring id noneHeld) [eng (.switchOff 9) .restore 0],
    boostable .overridden (fun r => { r with level := some 0 }) #v[none, none, held 9, none],
    boostable .live (fun r => { r with level := some 0 }) noneHeld,
    boostableListed .shedding id (some stopping),
    withEngine (boostable .restoring id noneHeld) [eng (.switchOff 9) .restore 0, eng (.switchOn 9) .resume 0],
    boostable .overridden (fun r => { r with level := some 0 })
      #v[none, none, some { ch := 9, expiry := 60000, deadline := some 5000 }, none],
    boostable .live id noneHeld]
where
  withEngine (s : State) (q : List EngEntry) : State := { s with load := { s.load with engine := q } }

theorem agree_boostForms : ∀ s ∈ boostForms, ChannelsAgree s.toPart := by
  have a : ∀ s ∈ boostForms, s.seq.list.Nodup ∧
      (∀ c : Channel, c ∈ s.seq.list ↔ s.chans[c].state = .shedding ∨ s.chans[c].state = .shed) ∧
      (∀ c : Channel, s.ctxs[c].isSome = true ↔ s.chans[c].state = .shedding) ∧
      (∀ c : Channel, (∃ i : Fin 4, s.overrides[i].map Override.ch = some c) ↔ s.chans[c].state = .overridden) ∧
      ∀ i j : Fin 4, ∀ c : Channel,
        s.overrides[i].map Override.ch = some c → s.overrides[j].map Override.ch = some c → i = j := by decide +kernel
  exact fun s h => ⟨(a s h).1, (a s h).2.1, (a s h).2.2.1, (a s h).2.2.2.1, (a s h).2.2.2.2⟩

/-- After a programme's request, a terminal in flight, the level 0 or a SWITCH OFF in flight the switch-on is queued. -/
theorem witness_BoostSwitchOn :
    (∀ s ∈ boostForms, ChannelsAgree s.toPart) ∧
    (∀ s ∈ boostForms, PanelTakes s (from' 0x30) ∧ boostMeets s 9 ∧ s.load.engine.length < 8) ∧
    boostForms.map (darkAtBoost · 9)
      = [true, true, true, true, true, true, true, true, false, false, false, false] ∧
    (boostForms.map fun s => (after (.boost 5000 (from' 0x30) 9 1) s).load.engine.length)
      = [1, 1, 1, 1, 1, 2, 1, 1, 0, 2, 0, 0] ∧
    (boostForms.head?.map fun s => (after (.boost 4999 (from' 0x30) 9 1) s).load.engine.length) = some 0 := by
  refine ⟨agree_boostForms, ?_⟩
  unfold boostMeets; decide +kernel

theorem witness_BoostSwitchOn_deadline :
    let s := chan (boostable .overridden id #v[none, none, none, some { ch := 9, expiry := 60000, deadline := some 5000 }]) 9
      (inState .overridden (some (.level 1)))
    s.overrides[(3 : Fin 4)].bind Override.deadline = some 5000 ∧ 5000 ≤ s.now + 5000 ∧
    1 ≤ (s.chans[(9 : Channel)].intent.map Intent.code).getD 0 ∧ s.load.engine.length < 8 := by decide +kernel

/-- Channel 9 is OVERRIDDEN until 60,000 ms, with this programme, at this depth. -/
def overridden (p : Programme) (depth : Nat) (critical : Bool) : State :=
  let s := withAssess (chan awake 9 (inState .overridden (some .on))) fun a => { a with depth := depth, critical := critical }
  { s with
    overrides := awake.overrides.set 0 (held 9)
    mgmt := { s.mgmt with active := { s.mgmt.active with
      channels := s.mgmt.active.channels.set 9 { ChannelCfg.default with steps := p } } } }

theorem witness_OverrideEndsProgrammeStarts :
    (∀ s ∈ [overridden (slots .stopAsk) 7 false, overridden (slots .hold) 7 true, overridden (slots .hold) 6 false],
      s.overrides[(0 : Fin 4)] = held 9 ∧ 60000 ≤ s.now + 60000 ∧ s.chans[(9 : Channel)].state = .overridden ∧
      s.load.engine.length < 8) ∧
    (overridden (slots .stopAsk) 7 false).inZone 9 = true ∧ (overridden (slots .hold) 6 false).inZone 9 = false ∧
    standsAt (overridden (slots .stopAsk) 7 false) 9 (slots .stopAsk) 4 0 = some 0 ∧
    standsAt (overridden (slots .skipIfIdle) 7 false) 9 (slots .skipIfIdle) 4 0 = some 1 ∧
    (slotAt (slots .hold) (terminalIndex (slots .hold))).kind.isTerminal = true ∧
    (after (.overrideExpiry 60000 0) (overridden (slots .hold) 7 true)).ctxs[(9 : Channel)].map Context.index = some 2 := by
  decide +kernel

/-- Channel 9 SHEDDING at slot 0 of a programme, with a deadline. -/
def stepping (p : Programme) : State :=
  running (chan awake 9 (inState .shedding (some .on))) 9 (ctx p 0 .none (some 600000))

/-- A HOLD, then a slot of this kind, a HOLD and OPEN. -/
def skipping (k : StepKind) : Programme := #v[⟨.hold, 600⟩, ⟨k, 1⟩, ⟨.hold, 1⟩, ⟨.openOut, 0⟩]

/-- Channel 9 steps through `skipping k` with this current and status. -/
def skipped (k : StepKind) (current : Nat) (a : Appliance) : State :=
  running (chan awake 9 { inState .shedding (some .on) with current := some current, status := some a }) 9
    (ctx (skipping k) 0 .none (some 600000))

theorem witness_StepsEnd_skips :
    standsAt (skipped .skipIfIdle 0 .none) 9 (skipping .skipIfIdle) 4 1 = some 3 ∧
    standsAt (skipped .skipIfIdle 1 .none) 9 (skipping .skipIfIdle) 4 1 = some 2 ∧
    standsAt (skipped .skipIfRunning 0 .running) 9 (skipping .skipIfRunning) 4 1 = some 3 ∧
    standsAt (skipped .skipIfRunning 0 .stopped) 9 (skipping .skipIfRunning) 4 1 = some 2 ∧
    standsAt (skipped .waitIdle 0 .none) 9 (skipping .waitIdle) 4 1 = some 2 ∧
    standsAt (skipped .waitIdle 1 .none) 9 (skipping .waitIdle) 4 1 = some 1 ∧
    (after (.holdEnd 600000 9) (skipped .skipIfIdle 0 .none)).ctxs[(9 : Channel)].map Context.index = some 3 ∧
    (after (.holdEnd 600000 9) (skipped .skipIfRunning 0 .stopped)).ctxs[(9 : Channel)].map Context.index = some 2 ∧
    (after (.holdEnd 600000 9) (skipped .waitIdle 1 .none)).ctxs[(9 : Channel)].map Context.index = some 1 := by
  decide +kernel

theorem witness_StepsEnd :
    (∀ k ∈ [StepKind.stopAsk, .waitIdle, .hold],
      (stepping (slots k)).ctxs[(9 : Channel)] = some (ctx (slots k) 0 .none (some 600000)) ∧
      600000 ≤ (stepping (slots k)).now + 600000 ∧ (stepping (slots k)).load.engine.length < 8 ∧
      (slotAt (slots k) 0).kind = k ∧ standsAt (stepping (slots k)) 9 (slots k) 4 1 = some 1 ∧
      LoadTakes (stepping (slots k)) (from' 0x22) ∧ (stepping (slots k)).owner 9 = some 0x22 ∧
      (stepping (slots k)).chans[(9 : Channel)].state = .shedding ∧
      standsAt (withReport (stepping (slots k)) 9 50 0 1) 9 (slots k) 4 1 = some 1) ∧
    (after (.report 0 (from' 0x22) 0x7F [9, 50, 0, 1, 0xFF, 0, 0]) (stepping (slots .waitIdle))).ctxs[(9 : Channel)].map
      Context.index = some 1 ∧
    (after (.report 0 (from' 0x22) 0x7F [9, 50, 1, 1, 0xFF, 0, 0]) (stepping (slots .waitIdle))).ctxs[(9 : Channel)].map
      Context.index = some 0 := by decide +kernel

/-- A terminal or a STOPREQ of channel 9 on the bus, awaited by its context. -/
def awaited (p : Programme) (a : Awaited) (e : EngEntry) : State :=
  deep (running (chan (onBus e) 9 (inState .shedding (some .on))) 9 (ctx p 0 a none))

theorem witness_ProgrammeOutcomes :
    (awaited defaultProgramme .terminal (eng (.switchOff 9) (.terminal 0) 2)).load.sending = some .engine ∧
    (awaited defaultProgramme .terminal (eng (.switchOff 9) (.terminal 0) 2)).inZone 9 = true ∧
    (awaited defaultProgramme .terminal (eng (.switchOff 9) (.terminal 0) 2)).chans[(9 : Channel)].state = .shedding ∧
    (awaited defaultProgramme .terminal (eng (.switchOff 9) (.terminal 0) 2)).ctxs[(9 : Channel)].map Context.awaited
      = some .terminal ∧ 2 ≤ (eng (.switchOff 9) (.terminal 0) 2).attempts ∧
    standsAt (awaited (slots .stopAsk) .stopreq (eng (.stopreq 9) (.stopreq 0) 0)) 9 (slots .stopAsk) 4 1 = some 1 ∧
    (verdictOf [0x02]).isSome = true ∧
    (after (.terminalOutcome 0 []) (awaited defaultProgramme .terminal (eng (.switchOff 9) (.terminal 0) 2))).chans[(9 : Channel)].state
      = .shed ∧
    (after (.stopreqOutcome 0 [0x02]) (awaited (slots .stopAsk) .stopreq (eng (.stopreq 9) (.stopreq 0) 0))).ctxs[(9 : Channel)].map
      Context.index = some 1 := by decide +kernel

/-- Channel 9 SHED since 0 with a minimum off time of 5 s, in this sequencer state, outside the zone or inside. -/
def listed (x : SeqState) (d : Option Nat) (tier : Nat) (w : Option Intent) : State :=
  let s := chan awake 9 { inState .shed w with offSince := some 0 }
  { s with
    seq := { list := [9], state := x, restoring := none, spacingAt := d }
    mgmt := { s.mgmt with active := { s.mgmt.active with
      channels := s.mgmt.active.channels.set 9 { ChannelCfg.default with minOff := 5, tier := tier } } } }

/-- `s` once this time has passed. -/
def laterIn (s : State) (dt : Nat) : State := { s with toPart := later s dt }

theorem witness_PickNewestEligible :
    picksAt (listed .spacing (some 5000) 7 (some .on)) 5000 (.spacingTimerExpiry 5000) ∧
    picksAt (listed .idle none 0 (some .off)) 5000 (.readyTimeReached 5000) ∧
    (listed .spacing (some 5000) 7 (some .on)).load.engine.length < 8 ∧
    (listed .spacing (some 5000) 7 (some .on)).seq.list.find? (eligibleIn (laterIn (listed .spacing (some 5000) 7 (some .on)) 5000))
      = some 9 ∧
    (listed .spacing (some 4999) 7 (some .on)).seq.list.find? (eligibleIn (laterIn (listed .spacing (some 4999) 7 (some .on)) 4999))
      = none ∧
    (after (.spacingTimerExpiry 5000) (listed .spacing (some 5000) 7 (some .on))).seq.restoring = some 9 ∧
    (after (.readyTimeReached 5000) (listed .idle none 0 (some .off))).chans[(9 : Channel)].state = .live := by
  unfold picksAt; decide +kernel

/-- The presence record of module 0x20 is this. -/
def present (x : Presence) (n : Nat) (d : Option Nat) : State :=
  { awake with roster := { awake.roster with
      presence := { node := 0x20, state := x, unanswered := n, silenceAt := d } :: awake.roster.presence.tail } }

/-- Channel 9 eligible with its repeated terminal awaiting a slot behind eight frames of channel 20. -/
def crowdedOut : State :=
  let s := listed .spacing (some 5000) 7 (some .on)
  { chan s 9 { inState .shed (some .on) with offSince := some 0, inFlight := true, terminal := some .openOut } with
    load := { s.load with
      engine := List.replicate 8 (eng (.switchOn 20) .boostOn 0), awaiting := [⟨.switchOff 9, .resend⟩] } }

/-- The restoring command takes the place of the repeated terminal, whose withdrawal clears its mark. -/
theorem witness_PickNewestEligible_replaces :
    picksAt crowdedOut 5000 (.spacingTimerExpiry 5000) ∧ pickEndsTerminal (laterIn crowdedOut 5000) 9 = true ∧
    (after (.spacingTimerExpiry 5000) crowdedOut).load.awaiting = [⟨.switchOn 9, .restore⟩] ∧
    (after (.spacingTimerExpiry 5000) crowdedOut).chans[(9 : Channel)].inFlight = false := by
  unfold picksAt; decide +kernel

/-- Channel 9 in this state with this command of its on the bus. -/
def answering (x : ChanState) (e : EngEntry) : State := chan (onBus e) 9 (inState x (some .on))

theorem witness_RestoringEnds :
    (∀ s ∈ [answering .restoring (eng (.switchOn 9) .restore 2), deep (answering .restoring (eng (.switchOn 9) .resume 0))],
      s.load.sending = some .engine ∧ s.chans[(9 : Channel)].state = .restoring ∧ s.load.engine.length = 1) ∧
    2 ≤ (eng (.switchOn 9) .restore 2).attempts ∧ (verdictOf [0x01]).isSome = true ∧
    (after (.restoreOutcome 0 []) (answering .restoring (eng (.switchOn 9) .restore 2))).chans[(9 : Channel)].state = .live ∧
    (after (.resumeOutcome 0 [0x01]) (deep (answering .restoring (eng (.switchOn 9) .resume 0)))).chans[(9 : Channel)].state
      = .shedding := by decide +kernel

/-- A channel boosted, released or made UNKNOWN while its restore was in flight: the spacing timer starts as well. -/
theorem witness_RestoringEnds_elsewhere :
    ∀ x ∈ [ChanState.overridden, .released, .unknown],
      (answering x (eng (.switchOn 9) .restore 0)).load.sending = some .engine ∧
      (answering x (eng (.switchOn 9) .restore 0)).chans[(9 : Channel)].state = x ∧
      (after (.restoreOutcome 7 [0x01]) (answering x (eng (.switchOn 9) .restore 0))).seq.spacingAt
        = some (awake.now + 7 + awake.settings.restoreSpacing) := by decide +kernel

theorem witness_RepeatAndStaleOutcomes :
    (∀ s ∈ [answering .overridden (eng (.switchOn 9) .boostOn 0), answering .live (eng (.switchOff 9) .resend 0),
        answering .live (eng (.switchOff 9) (.terminal 0) 0), answering .live (eng (.switchOn 9) .restore 0),
        answering .live (eng (.switchOn 9) .resume 0), answering .live (eng (.switchOn 9) .boostOn 0)],
      s.load.sending = some .engine ∧ s.load.engine.length = 1 ∧ s.ctxs[(9 : Channel)] = none ∧
      s.chans[(9 : Channel)].state ≠ .shed) ∧
    (answering .shed (eng (.switchOff 9) .resend 0)).chans[(9 : Channel)].state = .shed ∧
    (verdictOf [0x01]).isSome = true ∧
    (after (.resendOutcome 0 [0x01]) (answering .shed (eng (.switchOff 9) .resend 0))).chans[(9 : Channel)].confirmed = true ∧
    (after (.terminalOutcome 0 [0x01]) (answering .live (eng (.switchOff 9) (.terminal 0) 0))).chans[(9 : Channel)].confirmed
      = false := by decide +kernel

/-- The third attempt is unanswered: of a boost switch-on, of a repeated terminal, and of a command whose module becomes
ABSENT by it. -/
theorem witness_RepeatAndStaleOutcomes_unanswered :
    let sure (s : State) : State := { s with toPart := s.modChan 9 fun r => { r with confirmed := true } }
    let boosted := sure (answering .overridden (eng (.switchOn 9) .boostOn 2))
    let repeated := sure (answering .shed (eng (.switchOff 9) .resend 2))
    let tied (n : Nat) := sure { chan (present .present n none) 9 (inState .live (some .on)) with
      load := (onBus { eng (.switchOn 9) .boostOn 2 with tie := some 0x20 }).load }
    (∀ s ∈ [boosted, repeated, tied 1, tied 2],
      s.load.sending = some .engine ∧ s.load.engine.all (fun e => decide (2 ≤ e.attempts)) = true) ∧
    (after (.boostSwitchOnOutcome 0 []) boosted).chans[(9 : Channel)].confirmed = false ∧
    (after (.resendOutcome 0 []) repeated).chans[(9 : Channel)].confirmed = false ∧
    (after (.boostSwitchOnOutcome 0 []) (tied 1)).chans[(9 : Channel)].confirmed = true ∧
    (tied 1).ctxs[(9 : Channel)] = none ∧ (tied 1).chans[(9 : Channel)].state = .live := by decide +kernel

/-- The default BANDS: (100, 7), (200, 4); every other entry is empty. -/
theorem witness_EndingBoundaries :
    Tables.default.band 100 = 7 ∧ Tables.default.band 101 = 4 ∧ Tables.default.band 200 = 4 ∧ Tables.default.band 201 = 0 ∧
    Tables.default.owner 3 = some 0x20 ∧ Tables.default.owner 4 = some 0x21 := by decide +kernel

/-- Module 0x20 is ABSENT, and its channel 0 SHED with a DIM terminal. -/
def returning : State :=
  chan (present .absent 3 none) 0 { inState .shed (some .on) with terminal := some (.dim 30), unreachable := true }

theorem witness_LoadSegmentHearings_return :
    let f : Frame := { frame kindNotice 0x7F [] with head := from' 0x20 }
    LoadTakes returning f.head ∧ f.fits = true ∧ heardIn (bare f) = [] ∧ returning.owner 0 = some 0x20 ∧
    1 ≤ returning.tier 0 ∧
    (after (.loadFrameArrival 0 (bare f)) returning).load.engine.map EngEntry.body = [.switchLevel 0 30] ∧
    (after (.loadFrameArrival 0 (bare f)) returning).panel.notices.map NoticeEntry.body = [.module 0x20 .present] ∧
    (after (.loadFrameArrival 0 (bare f)) returning).panel.forward.length = 1 := by decide +kernel

theorem witness_LoadSegmentHearings :
    (∀ f ∈ [frame kindNotice 0x7F [], frame kindNotice 0x20 [], frame kindNotice 0x70 (zeros 8)],
      LoadTakes awake f.head ∧ f.fits = true ∧ f.kind ≠ kindSample ∧ f.kind ≠ kindReport ∧ heardIn (bare f) = [] ∧
      ¬awayAt awake f.head.source) ∧
    LoadTakes (present .absent 3 none) (from' 0x20) ∧
    ((present .absent 3 none).record 0x20).map PresenceRec.state = some .absent ∧
    (after (.loadFrameArrival 0 (bare { frame kindNotice 0x7F [] with head := from' 0x20 }))
      (present .silent 1 none)).panel.notices.length = 1 := by unfold awayAt; decide +kernel

/-- The roll that answers a CENSUS of node 0x30 brings 0x20 back from ABSENT, and 0x3F sets the unlisted-node mark. -/
theorem witness_LoadSegmentHearings_roll :
    let a : LoadArrival := ⟨frame kindCensus 0x7F (zeros 8), [0x20, 0x3F, 0x40]⟩
    LoadTakes returning a.frame.head ∧ a.frame.fits = true ∧ heardIn a = [0x20, 0x3F] ∧
    ((after (.loadFrameArrival 7 a) returning).record 0x20) = some (heardAt 7 ⟨0x20, .absent, 3, none⟩) ∧
    (after (.loadFrameArrival 7 a) returning).roster.unlisted = true ∧
    (after (.loadFrameArrival 7 a) returning).roster.answered = [] ∧
    (after (.loadFrameArrival 7 a) returning).chans[(0 : Channel)].unreachable = false ∧
    (after (.loadFrameArrival 7 { a with roll := [0x18, 0x08] }) returning).roster.unlisted = false := by decide +kernel

theorem witness_SilenceTimerExpiry :
    ((present .present 0 (some 5000)).record 0x20).bind PresenceRec.silenceAt = some 5000 ∧
    5000 ≤ (present .present 0 (some 5000)).now + 5000 ∧
    (after (.silenceTimerExpiry 5000 0x20) (present .present 0 (some 5000))).panel.notices.length = 1 ∧
    (after (.silenceTimerExpiry 5000 0x20) { present .present 0 (some 5000) with
      load := { awake.load with port := faultCore }
      roster := { (present .present 0 (some 5000)).roster with census := .idle } }).roster.census = .pending ∧
    (after (.silenceTimerExpiry 5000 0x20) { present .present 0 (some 5000) with
      roster := { (present .present 0 (some 5000)).roster with census := .idle } }).roster.census = .running ∧
    (after (.silenceTimerExpiry 4999 0x20) (present .present 0 (some 5000))).panel.notices.length = 0 := by decide +kernel

/-- A forwarded SWITCH on the bus, tied to module 0x20 with this unanswered count. -/
def forwardedOnBus (attempts n : Nat) : State :=
  { present .present n none with load := { awake.load with forward := [fwd attempts], sending := some .forward } }

theorem witness_ForwardedOutcome :
    (∀ s ∈ [forwardedOnBus 2 1, forwardedOnBus 2 2, forwardedOnBus 0 2],
      s.load.sending = some .forward ∧ (s.record 0x20).isSome = true ∧
      (s.record 0x20).map PresenceRec.state ≠ some .absent) ∧
    answerKind (fwd 2).frame.kind = .verdict ∧ (fwd 2).tie = some 0x20 ∧ 2 ≤ (fwd 2).attempts ∧
    (verdictOf [0x02]).isSome = true ∧
    ((after (.forwardedOutcome 0 []) (forwardedOnBus 2 1)).record 0x20).map PresenceRec.unanswered = some 2 ∧
    ((after (.forwardedOutcome 0 []) (forwardedOnBus 2 2)).record 0x20).map PresenceRec.state = some .absent := by
  decide +kernel

/-- A forwarded CENSUS on the bus, with this tie, after three attempts. -/
def censusPassing (tie : Option NodeId) : State :=
  { present .silent 1 none with load := { awake.load with
      forward := [{ fwd 2 with frame := frame kindCensus 0x7F (zeros 8), tie := tie }], sending := some .forward } }

/-- The roll of a forwarded CENSUS is heard, and its end with no answer counts for the node it is tied to. -/
theorem witness_ForwardedOutcome_roll :
    (∀ x ∈ [none, some 0x20], (censusPassing x).load.sending = some .forward ∧
      (censusPassing x).load.forward.map (fun e => (answerKind e.frame.kind, e.attempts)) = [(.roll, 2)]) ∧
    rollIds [0x20, 0x3F] ≠ [] ∧ rollIds [0x40] = [] ∧ (censusPassing none).record 0x20 ≠ none ∧
    ((after (.forwardedOutcome 0 [0x20, 0x3F]) (censusPassing none)).record 0x20).map PresenceRec.state = some .present ∧
    (after (.forwardedOutcome 0 [0x20, 0x3F]) (censusPassing none)).roster.unlisted = true ∧
    (after (.forwardedOutcome 0 [0x20, 0x3F]) (censusPassing none)).panel.notices.length = 1 ∧
    ((after (.forwardedOutcome 0 [0x40]) (censusPassing (some 0x20))).record 0x20).map PresenceRec.unanswered = some 2 ∧
    (after (.forwardedOutcome 0 []) (censusPassing none)).load.forward = [] := by decide +kernel

/-- A census round on the bus. -/
def counted (round attempts : Nat) : State :=
  { onBus (eng (.census []) .census attempts) with roster := { awake.roster with census := .running, round := round } }

/-- The census round on the bus, module 0x20 SILENT and among the modules that have answered. -/
def answeredBefore (round attempts : Nat) (port : PortCore) : State :=
  { counted round attempts with
    load := { (counted round attempts).load with port := port }
    roster := { (counted round attempts).roster with
      answered := [0x20]
      presence := { node := 0x20, state := .silent, unanswered := 0, silenceAt := none } :: awake.roster.presence.tail } }

theorem slots_counted (r k : Nat) : SlotsSound (counted r k).toPart :=
  ⟨by simp [counted, onBus, eng], fun r h => (List.not_mem_nil h).elim, by simp [counted, onBus, eng], fun _ => rfl,
    fun h => Bool.noConfusion h, by simp [counted, onBus, eng], by simp [counted, onBus, eng],
    fun h => Bool.noConfusion h⟩

theorem slots_answeredBefore (r k : Nat) (p : PortCore) : SlotsSound (answeredBefore r k p).toPart :=
  ⟨(slots_counted r k).leaving, (slots_counted r k).channelOnly, (slots_counted r k).censusOnce, fun _ => rfl,
    fun h => Bool.noConfusion h, (slots_counted r k).openingOnce, (slots_counted r k).openingStands,
    fun h => Bool.noConfusion h⟩

theorem witness_CensusAndOpeningEnd_rounds :
    SlotsSound (counted 3 0).toPart ∧
    (counted 3 0).load.sending = some .engine ∧ rollIds [0x20, 0x40] ≠ [] ∧ (counted 3 0).roster.round < 4 ∧
    2 ≤ (eng (.census []) .census 2).attempts ∧ (counted 4 0).roster.round = 4 ∧
    (after (.censusRoundEnd 0 [0x20, 0x40]) (counted 3 0)).roster.round = 4 ∧
    (after (.censusRoundEnd 0 [0x20, 0x40]) (counted 4 0)).roster.census = .idle ∧
    ((after (.censusRoundEnd 0 [0x20]) (counted 4 0)).record 0x20).map PresenceRec.state = some .present ∧
    ((after (.censusRoundEnd 0 [0x20]) (counted 4 0)).record 0x21).map PresenceRec.state = some .absent ∧
    ((after (.censusRoundEnd 0 []) (counted 1 2)).record 0x21).map PresenceRec.state = some .absent :=
  ⟨slots_counted 3 0, by decide +kernel⟩

theorem witness_CensusAndOpeningEnd_renewed :
    SlotsSound (answeredBefore 4 0 activeCore).toPart ∧ SlotsSound (answeredBefore 1 2 faultCore).toPart ∧
    (after (.censusRoundEnd 0 [0x21]) (answeredBefore 4 0 activeCore)).roster.census = .running ∧
    (after (.censusRoundEnd 0 [0x21]) (answeredBefore 4 0 activeCore)).roster.round = 1 ∧
    (after (.censusRoundEnd 0 [0x20]) (answeredBefore 4 0 activeCore)).roster.census = .idle ∧
    (after (.censusRoundEnd 0 []) (answeredBefore 1 2 faultCore)).roster.census = .pending :=
  ⟨slots_answeredBefore .., slots_answeredBefore .., by decide +kernel⟩

/-- The OPENSET on the bus with channel 9 as its one member, or with channel 10 in the further set. -/
def opening (attempts : Nat) (further : List Channel) : State :=
  let s := deep (running (chan (onBus (eng .openset .openset attempts)) 9 (inState .shedding (some .on))) 9
    (ctx defaultProgramme 0 .opening none))
  { s with roster := { s.roster with
      opening := .sent, openingSet := [9], owners := [(9, some 0x22)], further := further } }

theorem slots_opening (k : Nat) (f : List Channel) : SlotsSound (opening k f).toPart :=
  ⟨by simp [opening, deep, withAssess, running, chan, onBus, eng], fun r h => (List.not_mem_nil h).elim,
    by simp [opening, deep, withAssess, running, chan, onBus, eng],
    by simp [opening, deep, withAssess, running, chan, onBus, eng], fun h => Bool.noConfusion h,
    by simp [opening, deep, withAssess, running, chan, onBus, eng], fun _ => rfl, fun h => Bool.noConfusion h⟩

theorem witness_CensusAndOpeningEnd_opening :
    (∀ k f, SlotsSound (opening k f).toPart) ∧
    (∀ s ∈ [opening 0 [], opening 2 [10]],
      s.load.sending = some .engine ∧ s.load.engine.length = 1 ∧ (9 : Channel) ∈ s.roster.openingSet ∧
      s.inZone 9 = true ∧ s.ctxs[(9 : Channel)].map Context.awaited = some .opening ∧
      (slotAt defaultProgramme 0).kind = .openOut ∧ s.chans[(9 : Channel)].state = .shedding) ∧
    rollIds [0x22] ≠ [] ∧ 2 ≤ (eng .openset .openset 2).attempts ∧
    (after (.opensetEnd 0 [0x22]) (opening 0 [])).chans[(9 : Channel)].state = .shed ∧
    (after (.opensetEnd 0 []) (opening 2 [10])).chans[(9 : Channel)].state = .shedding ∧
    (after (.opensetEnd 0 []) (opening 2 [10])).roster.openingSet = [10] :=
  ⟨slots_opening, by decide +kernel⟩

theorem witness_FrameBytes :
    (frame kindNotice 0x7F (zeros 8)).fits = true ∧ dataLimit (from' 0x30).long < (zeros 9).length ∧
    (0 : Byte) ≠ crc8 ((frame kindNotice 0x7F []).headerBytes ++ []) := by decide +kernel

/-- A port in this state. -/
def portIn (p : PortId) (k : PortCore) : State := { awake with toPart := awake.modCore p fun _ => k }

theorem witness_SilentPortAndDroppedFrame :
    (∀ p ∈ [PortId.panel, .load],
      (awake.core p).state = .active ∧ ((portIn p silentCore).core p).state = .silent ∧
      ((portIn p silentCore).core p).startUp = false) ∧
    portQuiet awake .panel ∧ portQuiet awake .load ∧ Frame.ofBytes (zeros 3) = none ∧ Frame.ofBytes (zeros 68) = none := by
  unfold portQuiet; decide +kernel

/-- A symbol violation in an attempt, and part way through the roll that answers a census, an OPENSET or a forwarded
CENSUS: the IDs before it stand. -/
theorem witness_SilentPortAndDroppedFrame_cut :
    let asked (e : EngEntry) : State := { onBus e with roster := { awake.roster with census := .running, round := 1 } }
    let census := asked (eng (.census []) .census 0)
    let openset := asked (eng .openset .openset 0)
    let passing : State := { awake with load := { awake.load with
      sending := some .forward, forward := [{ fwd 0 with frame := frame kindCensus 0x7F (zeros 8) }] } }
    (∀ s ∈ [census, openset, passing, onBus (eng (.switchOn 9) .restore 1)], s.load.port.state = .active ∧
      s.load.sending.isSome = true) ∧
    rollIds [0x20, 0x21] ≠ [] ∧ rollIds [] = [] ∧ rollIds [0x40] = [] ∧
    (after (.symbolViolation 0 .load [0x20, 0x21]) census).roster.answered = [0x20, 0x21] ∧
    (after (.symbolViolation 0 .load [0x20, 0x21]) census).load.port.state = .silent ∧
    (after (.symbolViolation 0 .load [0x20]) openset).load.sending = none ∧
    (after (.symbolViolation 0 .load [0x20]) passing).load.forward = [] ∧
    (after (.symbolViolation 0 .load []) (onBus (eng (.switchOn 9) .restore 1))).load.engine
      = [pausedEng 0 (eng (.switchOn 9) .restore 1)] := by decide +kernel

/-- A frame of the part's own node, and one at a port that is not ACTIVE. -/
theorem witness_SilentPortAndDroppedFrame_arrivals :
    (arrivesAt awake (.sample 5 (from' 0x08) 0x7F (zeros 5))).map Prod.fst = some .load ∧
    (arrivesAt awake (.panelSwitchOff 5 (from' 0x08) 47)).map (fun x => x.2.fits) = some true ∧
    (from' 0x08).source = awake.nodeId ∧
    (after (.panelSwitchOff 5 (from' 0x08) 47) awake).load.forward = [] ∧
    (after (.panelSwitchOff 5 (from' 0x30) 47) awake).load.forward.length = 1 ∧
    (after (.panelSwitchOff 5 (from' 0x30) 47) (portIn .panel silentCore)).load.forward = [] ∧
    (after (.panelSwitchOff 5 (from' 0x30) 47) (portIn .panel faultCore)).panel.answer = .none := by decide +kernel

/-- While the store is read a port neither enters FAULT nor leaves it. -/
theorem witness_FaultAndStartOfPorts_reading :
    State.reset.mgmt.reading = true ∧ (State.reset.core .load).state ≠ .fault ∧
    (after (.portFaultEntry 1 .load) State.reset).alerts.portFault = false ∧
    (portIn .load faultCore).roster.census = .pending ∧ (portIn .load faultCore).mgmt.reading = false ∧
    (after (.portFaultEnd 1 .load) (portIn .load faultCore)).roster.census = .running := by decide +kernel

theorem witness_FaultAndStartOfPorts :
    (∀ p ∈ [PortId.panel, .load],
      (awake.core p).state ≠ .fault ∧ ((portIn p faultCore).core p).state = .fault ∧
      (portIn p faultCore).mgmt.reading = false ∧ ((portIn p PortCore.atReset).core p).state = .silent ∧
      ((portIn p PortCore.atReset).core p).startUp = true) ∧
    (portIn .load PortCore.atReset).roster.census = .pending ∧ (portIn .load PortCore.atReset).load.awaitCensus = false ∧
    (portIn .load PortCore.atReset).load.engine.length < 8 ∧ (counted 1 0).roster.census ≠ .pending := by decide +kernel

/-- One engine frame and one forwarded frame wait, after this many engine attempts in a row. -/
def waiting (count : Nat) (pause : Option Nat) : State :=
  { awake with load := { awake.load with
      engine := [{ eng (.switchOn 9) .restore 0 with pauseEnd := pause }], forward := [fwd 0], engineCount := count } }

/-- A frame waits in each queue of the Panel Port; the notice may be in its retry pause. -/
def waitingPanel (pause : Option Nat) : State :=
  { awake with panel := { awake.panel with
      notices := [{ body := .depth 1 .band, lost := false, number := 0, attempts := 1, pauseEnd := pause }]
      forward := [fwd 0] } }

theorem witness_BitErrorAndLostArbitration :
    (onBus (eng (.switchOn 9) .restore 1)).load.port.state = .active ∧
    (onBus (eng (.switchOn 9) .restore 1)).load.sending = some .engine ∧ (eng (.switchOn 9) .restore 1).attempts < 2 ∧
    (waiting 3 none).load.sending = none ∧ (later (waiting 3 none) 0).choiceStands = true ∧
    (later (waiting 3 none) 0).loadChosen = some ((EngBody.switchOn 9).frame 0x08 []) ∧
    0x000000 < ((EngBody.switchOn 9).frame 0x08 []).headerWord ∧
    (waitingPanel (some 100)).panel.sending = none ∧
    (later (waitingPanel (some 100)) 0).panelChosen = some (fwd 0).frame ∧
    (later (waitingPanel (some 100)) 100).panelChosen.isSome = true := by decide +kernel

/-- A third attempt, and the frames of both forward queues, of a notice and of an answer, when a bit error comes. -/
theorem witness_BitErrorAndLostArbitration_cut :
    let entry (n : Nat) : NoticeEntry :=
      { body := .depth 1 .band, lost := false, number := 0, attempts := n, pauseEnd := none }
    let notice (n : Nat) : State := { awake with panel := { awake.panel with
      sending := some .notice, notices := [entry n] } }
    let passing : State := { awake with panel := { awake.panel with sending := some .forward, forward := [fwd 1] } }
    let answers : State := { awake with panel := { awake.panel with
      answer := .verdict 0x10, port := { activeCore with position := .answerField } } }
    (onBus (eng (.switchOn 9) .restore 2)).load.port.state = .active ∧
    (after (.bitError 0 .load) (onBus (eng (.switchOn 9) .restore 2))).seq.state = .spacing ∧
    (after (.bitError 0 .load) (forwardedOnBus 1 0)).load.forward = [pausedFwd 0 (fwd 1)] ∧
    (after (.bitError 0 .load) (forwardedOnBus 2 0)).load.forward = [] ∧
    (after (.bitError 0 .panel) (notice 1)).panel.notices.length = 1 ∧
    (after (.bitError 0 .panel) (notice 2)).panel.notices = [] ∧
    (after (.bitError 0 .panel) passing).panel.forward = [pausedFwd 0 (fwd 1)] ∧
    answers.panel.answer ≠ .none ∧ (after (.bitError 0 .panel) answers).panel.answer = .none := by decide +kernel

/-- The winner of an arbitration is received: no send, until its frame has arrived. -/
theorem witness_BitErrorAndLostArbitration_receiving :
    let s : State := { waiting 3 none with
      load := { (waiting 3 none).load with port := { activeCore with position := .headerData } } }
    portFree (waiting 3 none) .load ∧ portFree (waitingPanel (some 100)) .panel ∧
    (after (.arbitrationLost 0 .load 0) (waiting 3 none)).load = s.load ∧ s.load.sending = none ∧
    (after (.loadPortSend 0) s).load.sending = none ∧
    (after (.loadPortSend 0) { s with
      load := (after (.loadFrameArrival 0 (bare (frame kindNotice 0x7F []))) s).load }).load.sending = some .engine := by
  unfold portFree; decide +kernel

theorem witness_ArbiterChooses :
    (∀ s ∈ [waiting 3 none, waiting 4 none, waiting 0 (some 100), awake],
      portFree s .load ∧ (later s 99).choiceStands = true) ∧
    (after (.loadPortSend 0) (waiting 3 none)).load.sending = some .engine ∧
    (after (.loadPortSend 0) (waiting 4 none)).load.sending = some .forward ∧
    (after (.loadPortSend 99) (waiting 0 (some 100))).load.sending = some .forward ∧
    (after (.loadPortSend 100) (waiting 0 (some 100))).load.sending = some .engine := by
  unfold portFree; decide +kernel

/-- A SWITCH OFF of a channel that has been RELEASED is withdrawn, and the next one sent. -/
theorem witness_NoExemptFrameBegins :
    let s : State := { chan awake 9 (inState .released none) with load := { awake.load with
      engine := [eng (.switchOff 9) (.terminal 0) 0, eng (.switchOff 10) (.terminal 1) 0] } }
    s.load.sending = none ∧ (after (.loadPortSend 0) s).load.sending = some .engine ∧
    (after (.loadPortSend 0) s).load.engine.head? = some (eng (.switchOff 10) (.terminal 1) 0) := by decide +kernel

theorem witness_PanelPortSends :
    (∀ s ∈ [waitingPanel none, waitingPanel (some 100), awake], portFree s .panel) ∧
    (after (.panelPortSend 99) (waitingPanel (some 100))).panel.sending = some .forward ∧
    (after (.panelPortSend 100) (waitingPanel (some 100))).panel.sending = some .notice ∧
    (after (.frameSent 1 .panel) { waitingPanel none with
      panel := (after (.panelPortSend 0) (waitingPanel none)).panel }).panel.notices = [] ∧
    answerKind kindNotice ≠ .verdict ∧ answerKind kindNotice ≠ .roll := by unfold portFree; decide +kernel

theorem witness_RetryPauses :
    (onBus (eng (.switchOn 9) .restore 1)).load.sending = some .engine ∧ (eng (.switchOn 9) .restore 1).attempts < 2 ∧
    (forwardedOnBus 1 0).load.sending = some .forward ∧ (fwd 1).attempts < 2 ∧
    answerKind (fwd 1).frame.kind = .verdict ∧
    (waiting 0 (some 100)).load.engine.head?.bind EngEntry.pauseEnd = some 100 ∧
    (waitingPanel (some 100)).panel.notices.head?.bind NoticeEntry.pauseEnd = some 100 ∧
    100 ≤ (waitingPanel (some 100)).now + 100 ∧
    (after (.attemptNoAnswer 0) (onBus (eng (.switchOn 9) .restore 1))).load.engine.map EngEntry.pauseEnd = [some 100] := by
  decide +kernel

theorem witness_PanelFrameForwarded :
    ∀ f ∈ [frame kindStopreq 0x6F [], frame kindNotice 0x20 (zeros 8), frame kindNotice 0x21 [], frame kindNotice 0x7F [],
        frame kindSwitch 0x70 [0], frame kindSwitch 0x3F [0]],
      PanelTakes (forwarding awake 7) f.head ∧ PanelTakes (forwarding awake 8) f.head ∧ f.fits = true ∧
      switchToChannel f = false ∧ targetClass f.target ≠ .node (forwarding awake 7).nodeId := by decide +kernel

/-- Seven engine frames, and two commands that await a slot. -/
def crowded : State :=
  { awake with load := { awake.load with
      engine := List.replicate 7 (eng (.switchOff 9) .resend 0)
      awaiting := [⟨.stopreq 4, .stopreq 1⟩, ⟨.switchOff 4, .terminal 1⟩, ⟨.switchOff 5, .terminal 2⟩] } }

/-- The oldest request is channel 5's; channel 4's, in the middle, is granted. -/
def queued : State :=
  { crowded with load := { crowded.load with
      awaiting := [⟨.switchOff 5, .terminal 2⟩, ⟨.stopreq 4, .stopreq 1⟩, ⟨.switchOff 4, .terminal 1⟩] } }

theorem witness_QueueSlots :
    queued.load.engine.length = 7 ∧ queued.load.awaitOpenset = false ∧ queued.load.awaitCensus = false ∧
    queued.load.awaiting = [⟨.switchOff 5, .terminal 2⟩] ++ ⟨.stopreq 4, .stopreq 1⟩ :: [⟨.switchOff 4, .terminal 1⟩] ∧
    queued.grant.load.engine.length = 8 ∧
    queued.grant.load.awaiting = [⟨.switchOff 5, .terminal 2⟩, ⟨.switchOff 4, .terminal 1⟩] ∧
    (rostered false).grant.load.engine.length = 8 ∧ 8 ≤ (rostered false).load.engine.length ∧
    (onBus (eng (.switchOn 9) .restore 0)).queueOpenset.load.engine.map EngEntry.purpose = [.restore, .openset] ∧
    crowded.queueOpenset.load.engine.head?.map EngEntry.purpose = some .openset := by decide +kernel

/-- The head is a frame of RELEASED channel 9; behind it the next one waits. -/
def exemptHead (b : EngBody) (p : Purpose) : State :=
  { chan awake 9 { inState .released none with inFlight := true } with load := { awake.load with
      engine := [eng b p 0, eng (.switchOff 10) (.terminal 1) 0] } }

/-- The OPENSET stands at the head with these members; channel 9 is RELEASED. -/
def exemptSet (cs : List Channel) : State :=
  { chan awake 9 { inState .released none with inFlight := true } with
    load := { awake.load with engine := [eng .openset .openset 0] }
    roster := { awake.roster with opening := .sent, openingSet := cs } }

theorem slots_exemptSet (cs : List Channel) : SlotsSound (exemptSet cs).toPart :=
  ⟨by simp [exemptSet, chan, eng], fun r h => (List.not_mem_nil h).elim, by simp [exemptSet, chan, eng],
    by simp [exemptSet, chan, eng], fun h => Bool.noConfusion h, by simp [exemptSet, chan, eng], fun _ => rfl,
    fun h => Bool.noConfusion h⟩

/-- The head is a frame for channel 9, of tier 0 in this state. -/
def tierless (x : ChanState) (b : EngBody) (p : Purpose) : State :=
  let s := chan awake 9 { inState x (some .off) with inFlight := true, confirmed := true }
  { s with
    load := { awake.load with engine := [eng b p 0] }
    mgmt := { s.mgmt with active := { s.mgmt.active with
      channels := s.mgmt.active.channels.set 9 { ChannelCfg.default with tier := 0 } } } }

/-- The withdrawn repeated terminal of a SHED channel, and the withdrawn restore and resume of a RESTORING one. -/
theorem witness_QueueSlots_acts :
    (∀ s ∈ [tierless .shed (.switchOff 9) .resend, tierless .restoring (.switchOff 9) .restore,
        tierless .restoring (.switchOff 9) .resume],
      portFree s .load ∧ s.tier 9 = 0 ∧ s.ctxs[(9 : Channel)] = none ∧
      (after (.loadPortSend 0) s).chans[(9 : Channel)].confirmed = false ∧ (after (.loadPortSend 0) s).load.engine = []) ∧
    (after (.loadPortSend 0) (tierless .shed (.switchOff 9) .resend)).chans[(9 : Channel)].inFlight = false ∧
    (after (.loadPortSend 0) (tierless .restoring (.switchOff 9) .restore)).chans[(9 : Channel)].state = .live ∧
    (after (.loadPortSend 0) (tierless .restoring (.switchOff 9) .restore)).seq.state = .spacing ∧
    (after (.loadPortSend 0) (tierless .restoring (.switchOff 9) .resume)).panel.notices.length = 1 := by
  unfold portFree; decide +kernel

/-- R90: the withdrawal of a terminal is stale also beside a context that awaits it. -/
theorem witness_QueueSlots_context :
    let s := running (tierless .shedding (.switchOff 9) (.terminal 0)) 9 (ctx (slots .stopAsk) 2 .terminal none)
    portFree s .load ∧ s.ctxs[(9 : Channel)].map Context.awaited = some .terminal ∧
    (after (.loadPortSend 0) s).ctxs = s.ctxs ∧
    (after (.loadPortSend 0) s).chans[(9 : Channel)].state = .shedding ∧
    (after (.loadPortSend 0) s).chans[(9 : Channel)].inFlight = false := by unfold portFree; decide +kernel

theorem witness_QueueSlots_withdrawal :
    SlotsSound (exemptHead (.switchOff 9) (.terminal 0)).toPart ∧
    (isExempt (exemptHead (.switchOff 9) (.terminal 0)) (eng (.switchOff 9) (.terminal 0) 0) 9) ∧
    (isExempt (exemptHead (.switchLevel 9 30) .resend) (eng (.switchLevel 9 30) .resend 0) 9) ∧
    maySend (exemptHead (.switchOff 9) (.terminal 0)) (eng (.switchOff 10) (.terminal 1) 0) ∧
    (after (.loadPortSend 0) (exemptHead (.switchOff 9) (.terminal 0))).chans[(9 : Channel)].inFlight = false ∧
    (after (.loadPortSend 0) (exemptHead (.stopreq 9) (.stopreq 0))).chans[(9 : Channel)].inFlight = true ∧
    (after (.loadPortSend 0) (exemptHead (.switchOff 9) .restore)).seq.state = .spacing ∧
    (after (.loadPortSend 0) (exemptHead (.switchOff 9) (.terminal 0))).load.sending = some .engine ∧
    (∀ cs, SlotsSound (exemptSet cs).toPart) ∧
    (after (.loadPortSend 0) (exemptSet [9])).roster.opening = .idle ∧
    (after (.loadPortSend 0) (exemptSet [9])).load.engine = [] ∧
    (after (.loadPortSend 0) (exemptSet [9, 10])).roster.openingSet = [10] ∧
    (after (.loadPortSend 0) (exemptSet [9, 10])).load.sending = some .engine := by
  refine ⟨⟨by decide +kernel, by decide +kernel, by decide +kernel, by decide +kernel, by decide +kernel,
    by decide +kernel, by decide +kernel, by decide +kernel⟩, ⟨Or.inr (by decide +kernel), Or.inl rfl⟩,
    ⟨Or.inr (by decide +kernel), Or.inr (Or.inr ⟨30, rfl, rfl⟩)⟩, ?_, ?_⟩
  · show ¬outOfReach (exemptHead (.switchOff 9) (.terminal 0)) 10
    unfold outOfReach; decide +kernel
  · exact ⟨by decide +kernel, by decide +kernel, by decide +kernel, by decide +kernel, slots_exemptSet, by decide +kernel,
      by decide +kernel, by decide +kernel, by decide +kernel⟩

theorem witness_TablesReadBack : Tables.default.inRange = true := by decide +kernel

/-- LOAD of the last channel record, of one record too many, and of none. -/
theorem witness_LoadAndQueries_load :
    PanelTakes awake (long 0x30) ∧ dataFits (long 0x30) (0x01 :: 2 :: 45 :: 3 :: zeros 57) = true ∧
    tableOf 2 = some .channels ∧ tableOf 4 = none ∧
    (after (.load 0 (long 0x30) (2 :: 45 :: 3 :: zeros 57)) awake).panel.answer = .data [1] ∧
    (after (.load 0 (long 0x30) (3 :: 11 :: 1 :: [63, 47])) awake).panel.answer = .data [0] ∧
    (after (.load 0 (long 0x30) (3 :: 11 :: 1 :: [63, 48])) awake).panel.answer = .data [1] ∧
    (after (.load 0 (long 0x30) (2 :: 46 :: 3 :: zeros 57)) awake).panel.answer = .data [5] ∧
    (after (.load 0 (long 0x30) (2 :: 45 :: 0 :: zeros 0)) awake).panel.answer = .data [3] := by decide +kernel

/-- The commit state is this, over a shadow that holds the defaults. -/
def committing (x : CommitState) : State := { awake with mgmt := { awake.mgmt with commit := x } }

/-- The default tables with one field changed, for each reason. -/
def withSteps (p : Programme) : Tables :=
  { Tables.default with channels := Tables.default.channels.set 20 { ChannelCfg.default with steps := p } }
def withEntry (k : Fin 12) (n : NodeId) (e : Nat) : Tables :=
  { Tables.default with roster := Tables.default.roster.set k { node := n, ending := e } }

/-- Each INVALID answer at the lowest record it can name, in the order of the checks. -/
theorem witness_CommitTested_reasons :
    ({ Tables.default with bands := Tables.default.bands.set 2 ⟨5, 0, 201⟩ } : Tables).check 0x08 = some ⟨1, 2, 5⟩ ∧
    (withSteps #v[⟨.none, 0⟩, ⟨.none, 0⟩, ⟨.none, 0⟩, ⟨.none, 0⟩]).check 0x08 = some ⟨2, 20, 1⟩ ∧
    (withSteps #v[⟨.hold, 1⟩, ⟨.none, 0⟩, ⟨.none, 0⟩, ⟨.none, 0⟩]).check 0x08 = some ⟨2, 20, 2⟩ ∧
    (withSteps #v[⟨.skipIfIdle, 0⟩, ⟨.openOut, 0⟩, ⟨.none, 0⟩, ⟨.none, 0⟩]).check 0x08 = some ⟨2, 20, 3⟩ ∧
    (withSteps #v[⟨.stopAsk, 1⟩, ⟨.stopAsk, 1⟩, ⟨.openOut, 0⟩, ⟨.none, 0⟩]).check 0x08 = some ⟨2, 20, 4⟩ ∧
    (withEntry 2 0x20 11).check 0x08 = some ⟨3, 2, 6⟩ ∧ (withEntry 2 0x08 11).check 0x08 = some ⟨3, 2, 7⟩ ∧
    (withEntry 11 0x2B 46).check 0x08 = some ⟨2, 47, 8⟩ := by decide +kernel

theorem witness_CommitTested :
    (∀ x ∈ [CommitState.idle, .pending, .writing],
      PanelTakes (committing x) (from' 0x30) ∧ dataFits (from' 0x30) (0x02 :: zeros 7) = true) ∧
    (committing .idle).mgmt.shadow.check (committing .idle).nodeId = none ∧
    (after (.commit 0 (from' 0x30) []) (committing .idle)).mgmt.commit = .pending := by decide +kernel

/-- A PENDING commit of another monitor node and another capacity. -/
def swapping : State :=
  { committing .pending with mgmt := { (committing .pending).mgmt with
      shadow := (withSetting (withSetting awake 0 200) 23 0x19).mgmt.active } }

theorem witness_CommittedSwap :
    swapping.assess.timerAt ≤ swapping.now + 1000 ∧ swapsAt swapping ∧
    (after (.assessment 1000) { swapping with mgmt := { swapping.mgmt with restartArmed := true } }).mgmt.commit = .pending ∧
    (after (.assessment 1000) { swapping with mgmt := { swapping.mgmt with restartArmed := true } }).mgmt.store
      = swapping.mgmt.store ∧
    (after (.assessment 1000) swapping).mgmt.commit = .writing ∧
    (after (.assessment 1000) (withReserve swapping fun r => { r with valid := true, reserve := 180000000 })).reserve.reserve
      = 360000000 := by decide +kernel

/-- A swap that takes node 0x20 out of the roster: the queued frame tied to it keeps its place without a tie, and the
census is requested. -/
theorem witness_CommittedSwap_roster :
    let s : State := { swapping with
      load := { swapping.load with engine := [{ eng (.switchOn 0) .boostOn 0 with tie := some 0x20 }], forward := [fwd 0] }
      roster := { swapping.roster with census := .idle }
      mgmt := { swapping.mgmt with shadow := { swapping.mgmt.shadow with
        roster := swapping.mgmt.shadow.roster.set 0 { node := 0x3E, ending := 3 } } } }
    let silenced : State := { s with load := { s.load with port := faultCore } }
    swapsAt s ∧ tieAfterSwap s (some 0x20) = none ∧ tieAfterSwap s (some 0x21) = some 0x21 ∧
    (after (.assessment 1000) s).load.engine
      = [eng (.switchOn 0) .boostOn 0, queuedAs s (.census []) .census] ∧
    (after (.assessment 1000) s).load.forward.map FwdEntry.tie = [none] ∧
    (after (.assessment 1000) s).roster.census = .running ∧ (after (.assessment 1000) silenced).roster.census = .pending := by
  decide +kernel

/-- A PENDING commit that makes channel 9 of tier `tier`, with this minimum off time and owner, at this depth. -/
def retiering (s : State) (tier minOff : Nat) (owner : NodeId) : State :=
  let s := withAssess s fun a => { a with depth := 3 }
  { s with mgmt := { s.mgmt with
      commit := .pending
      shadow := { s.mgmt.active with
        channels := s.mgmt.active.channels.set 9 { s.mgmt.active.channels[(9 : Fin 48)] with tier := tier, minOff := minOff }
        roster := s.mgmt.active.roster.set 2 { node := owner, ending := 11 } } } }

/-- Channel 9 SHEDDING in tier 7, on the list, with or without a STOPREQ sent. -/
def shedding (asked : Bool) : State :=
  { running (chan awake 9 (inState .shedding (some .on))) 9
      { ctx (slots .stopAsk) 0 .stopreq (some 600000) with requestSent := asked } with
    seq := { awake.seq with list := [9] } }

/-- Channel 9 OVERRIDDEN, switched off at 0, its switch-on held back to 5000 ms. -/
def heldBack : State :=
  { chan awake 9 { inState .overridden (some .on) with offSince := some 0 } with
    overrides := awake.overrides.set 2 (some { ch := 9, expiry := 60000, deadline := some 5000 }) }

theorem agree_shedding (b : Bool) : ChannelsAgree (retiering (shedding b) 4 0 0x22).toPart := by
  cases b <;> exact ⟨by decide +kernel, by decide +kernel, by decide +kernel, by decide +kernel, by decide +kernel⟩

theorem witness_SwapReconcilesChannels :
    (∀ b, ChannelsAgree (retiering (shedding b) 4 0 0x22).toPart) ∧
    swapsAt (retiering (shedding true) 4 0 0x22) ∧ (retiering (shedding true) 4 0 0x22).assess.timerAt ≤ 1000 ∧
    (retiering (shedding true) 4 0 0x22).reserve.monitor ≠ .lost ∧
    (after (.assessment 1000) (retiering (shedding true) 3 0 0x22)).chans[(9 : Channel)].state = .shedding ∧
    (after (.assessment 1000) (retiering (shedding true) 4 0 0x22)).chans[(9 : Channel)].state = .restoring ∧
    (after (.assessment 1000) (retiering (shedding false) 4 0 0x22)).chans[(9 : Channel)].state = .live ∧
    (after (.assessment 1000) (retiering (shedding true) 3 0 0x3F)).chans[(9 : Channel)].state = .unknown ∧
    (after (.assessment 1000) (retiering heldBack 0 5 0x22)).chans[(9 : Channel)].state = .live ∧
    (after (.assessment 1000) (retiering heldBack 3 1 0x22)).overrides[(2 : Fin 4)].bind Override.deadline = none ∧
    (after (.assessment 1000) (retiering heldBack 3 2 0x22)).overrides[(2 : Fin 4)].bind Override.deadline = some 2000 ∧
    (after (.assessment 1000) (retiering (chan awake 9 (inState .barred none)) 4 0 0x22)).chans[(9 : Channel)].state = .live ∧
    (after (.assessment 1000) (retiering (chan awake 9 (inState .live none)) 3 0 0x22)).chans[(9 : Channel)].state
      = .barred :=
  ⟨agree_shedding, by decide +kernel⟩

/-- RELEASED channel 9, unreachable, of a new owner; and channel 9 held back with intent OFF, whose moved deadline has
passed. -/
def givenAway : State :=
  retiering (chan awake 9 { inState .released none with unreachable := true, managed := false }) 3 0 0x3F
def heldBackOff : State :=
  retiering (chan heldBack 9 { inState .overridden (some .off) with offSince := some 0 }) 3 1 0x22

theorem witness_SwapReconcilesChannels_released :
    ChannelsAgree givenAway.toPart ∧ ChannelsAgree heldBackOff.toPart ∧ givenAway.owner 9 ≠ some 0x3F ∧
    (after (.assessment 1000) givenAway).chans[(9 : Channel)]
      = { inState .released none with unreachable := false, managed := false } ∧
    (after (.assessment 1000) heldBackOff).load.engine = [] ∧
    (after (.assessment 1000) (retiering heldBack 3 1 0x22)).load.engine.map EngEntry.body = [.switchOn 9] :=
  ⟨⟨by decide +kernel, by decide +kernel, by decide +kernel, by decide +kernel, by decide +kernel⟩,
    ⟨by decide +kernel, by decide +kernel, by decide +kernel, by decide +kernel, by decide +kernel⟩, by decide +kernel⟩

/-- A SETTINGS record of zeros with this word in bytes 33..34, V_full. -/
def fullAt (v : Nat) : List Byte := zeros 33 ++ be16 v ++ zeros 13

/-- The limits of R171 at their boundaries: V_full, step kind and argument, the flag byte. -/
theorem test_values_stored_by_load :
    ([0, 1, 5999, 6000, 11999, 12000, 30000, 30001].map fun v => (Settings.load (fullAt v)).1.vFull)
      = [0, 0, 0, 12000, 12000, 12000, 30000, 30000] ∧
    (Settings.load (fullAt 0)).1.acceptance = 900 ∧ (Settings.load (fullAt 0)).1.restoreSpacing = 100 ∧
    (ChannelCfg.load (zeros 1 ++ [8, 0, 0, 1, 0, 0, 4, 0, 0, 3, 255, 255, 0, 0, 0, 0, 0x7F, 0])).1
      = { tier := 0, steps := #v[⟨.none, 0⟩, ⟨.stopAsk, 1⟩, ⟨.skipIfIdle, 0⟩, ⟨.hold, 600⟩], dim := 1, minOff := 0,
          idle := 0, boostOk := false, protect := true, boostMax := 1 } := by decide +kernel

theorem witness_LoadAndQueries_queries :
    PanelTakes awake (from' 0x30) ∧
    (after (.read 0 (from' 0x30) [3, 11, 1]) awake).panel.answer = .data [0, 47] ∧
    (after (.read 0 (from' 0x30) [3, 12, 0]) awake).panel.answer = .data [5] ∧
    (after (.limits 0 (from' 0x30) [0, 23]) awake).panel.answer = .data [0, 0, 0, 0, 63] ∧
    (after (.channel 0 (from' 0x30) [48]) awake).panel.answer = .data [5] ∧
    (after (.channel 0 (from' 0x30) [9]) (listed .idle none 7 (some .on))).panel.answer
      = .data [0, 3, 100, 0x84, 0xFF, 0xFF, 0xFF, 0xFF, 0, 0, 5, 0xFF, 0xFF, 0xFF, 0xFF] ∧
    (after (.channel 4001 (from' 0x30) [9]) (listed .idle none 7 (some .on))).panel.answer
      = .data [0, 3, 100, 0x84, 0xFF, 0xFF, 0xFF, 0xFF, 0, 0, 0, 0xFF, 0xFF, 0xFF, 0xFF] := by decide +kernel

theorem witness_ReleaseAndRetain :
    PanelTakes awake (from' 0x30) ∧ (47 : Byte).toNat ≤ 47 ∧ 47 < (48 : Byte).toNat ∧
    (after (.release 0 (from' 0x30) [47]) awake).chans[(47 : Channel)].state = .released ∧
    (after (.release 0 (from' 0x30) [47]) awake).chans[(46 : Channel)].state = .unknown := by decide +kernel

theorem witness_SmallManagementCommands :
    (∀ s ∈ [awake, counted 1 0, committing .pending, committing .writing], PanelTakes s (from' 0x30)) ∧
    (counted 1 0).roster.census ≠ .idle ∧ dataFits (from' 0x30) [0x0D] = true ∧ noCommand [0x0D] = true ∧
    (after (.setReserve 0 (from' 0x30) [0x03, 0xE8]) awake).panel.answer = .data [0] ∧
    (after (.setReserve 0 (from' 0x30) [0x03, 0xE9]) awake).panel.answer = .data [1] ∧
    (after (.census 0 (from' 0x30) []) { awake with roster := { awake.roster with census := .idle } }).roster.round = 1 ∧
    (after (.census 0 (from' 0x30) []) { portIn .load faultCore with
      roster := { awake.roster with census := .idle } }).roster.census = .pending := by
  decide +kernel

theorem witness_ResetValues :
    let s : State := { busy with mgmt := { busy.mgmt with restartArmed := true } }
    s.mgmt.restartArmed = true ∧ (after (.managementReset 0) s).seq.list = [] ∧
    (after (.hardwareReset 0 15 7) busy).nodeId = 0x17 := by decide +kernel

/-- A store whose copy, all zeros, has its check word, and one whose copy has another. -/
def storing (good : Bool) : State :=
  let copy : StoreCopy := { image := [], check := if good then 0xFFFF else 0 }
  { State.reset with mgmt := { State.reset.mgmt with store := some copy } }

theorem witness_StoreReadAndWriteEnd :
    (storing true).mgmt.reading = true ∧ (storing false).mgmt.reading = true ∧ (committing .writing).mgmt.commit = .writing ∧
    (after (.storeReadEnd 4) (storing true)).alerts.defaults = false ∧
    (after (.storeReadEnd 4) (storing false)).alerts.defaults = true ∧
    (after (.storeReadEnd 4) State.reset).alerts.defaults = true := by decide +kernel

end Sys2Proof.Tests
end

/-! # Samples and charge counting (01)

The laws of the Reserve Unit's stages for an accepted sample, what the rest of the arrival leaves alone, and the three
statements of the family. -/

namespace Sys2Proof.Machine

/-! ## Numbers -/

/-- A truncated quotient lies between 0 and its dividend. -/
theorem tdiv_between (d : Int) (n : Nat) : min 0 d ≤ d.tdiv n ∧ d.tdiv n ≤ max 0 d := by
  have size : (d.tdiv n).natAbs ≤ d.natAbs := Int.natAbs_tdiv_le_natAbs d n
  rcases Int.le_total 0 d with up | down
  · have : 0 ≤ d.tdiv n := Int.tdiv_nonneg up (Int.natCast_nonneg n)
    omega
  · have : 0 ≤ (-d).tdiv n := Int.tdiv_nonneg (by omega) (Int.natCast_nonneg n)
    rw [Int.neg_tdiv] at this
    omega

/-- A signed two-byte field is a 16-bit value (R149). -/
theorem ofBe16s_range (hi lo : Byte) : -32768 ≤ ofBe16s hi lo ∧ ofBe16s hi lo ≤ 32767 := by
  have low := BitVec.le_toInt (hi ++ lo)
  have high := BitVec.toInt_lt (x := hi ++ lo)
  unfold ofBe16s
  omega

namespace ReserveUnit

variable (r : ReserveUnit) (t : Settings) (now : Nat) (d : SampleData)

/-! ## The stages of an accepted sample (R3) -/

/-- Stage 1 as one record update: what a return from LOST clears stands in its four fields (R4). -/
theorem refresh_eq : r.refresh now =
    { r with
      valid := if r.monitor = .lost then false else r.valid
      reserve := if r.monitor = .lost then 0 else r.reserve
      residue := if r.monitor = .lost then 0 else r.residue
      runtime := if r.monitor = .lost then none else r.runtime
      monitor := .fresh, staleAt := some (now + 2000), lostAt := some (now + 30000) } := by
  unfold refresh
  by_cases lost : r.monitor = .lost <;> simp [lost, Config.staleMs, Config.lostMs]

/-- The clamp of the elapsed time, as a case split (R7). -/
theorem elapsed_of_lastArrival {a : Nat} (arrived : r.lastArrival = some a) :
    r.elapsed now = if now - a < 1 then 1 else if 500 < now - a then 500 else now - a := by
  simp only [elapsed, arrived, Config.maxElapsed]
  split_ifs <;> omega

/-- The reserve and the residue that counting leaves, in the three cases of R11 and R12. -/
theorem count_cases (p : Int) (cMas : Nat) :
    let sum := r.residue + p
    let next : Int := r.reserve - sum.tdiv 100
    if cMas < next then (r.count p cMas).reserve = cMas ∧ (r.count p cMas).residue = 0
    else if next < 0 then (r.count p cMas).reserve = 0 ∧ (r.count p cMas).residue = 0
    else ((r.count p cMas).reserve : Int) = next ∧ (r.count p cMas).residue = sum - sum.tdiv 100 * 100 := by
  unfold count
  extract_lets sum whole next
  split_ifs with full empty
  · exact ⟨rfl, rfl⟩
  · exact ⟨rfl, rfl⟩
  · exact ⟨Int.toNat_of_nonneg (not_lt.mp empty), rfl⟩

/-- Two records that differ in reserve and residue at most. -/
structure SameButCharge (r u : ReserveUnit) : Prop where
  valid     : u.valid = r.valid
  runtime   : u.runtime = r.runtime
  monitor   : u.monitor = r.monitor
  staleAt   : u.staleAt = r.staleAt
  lostAt    : u.lostAt = r.lostAt
  vf        : u.vf = r.vf
  cur       : u.cur = r.cur
  critCount : u.critCount = r.critCount

theorem count_sameButCharge (p : Int) (cMas : Nat) : SameButCharge r (r.count p cMas) := by
  unfold count
  extract_lets sum whole next
  split_ifs <;> constructor <;> rfl

/-- The Reserve Unit after stages 1 to 3 of an accepted sample. -/
def charged : ReserveUnit :=
  if (r.refresh now).valid && !r.seed then
    (r.refresh now).count (charge d.current (r.elapsed now) t.acceptance) t.cMas
  else r.refresh now

theorem charged_sameButCharge : SameButCharge (r.refresh now) (r.charged t now d) := by
  unfold charged
  split
  · exact count_sameButCharge ..
  · constructor <;> rfl

/-- Nothing is counted while the reserve is not valid, nor by a seeding sample (R10). -/
theorem charged_eq_refresh (quiet : (r.refresh now).valid = false ∨ r.seed = true) :
    r.charged t now d = r.refresh now := by
  unfold charged
  rcases quiet with h | h <;> simp [h]

theorem charged_eq_count (valid : (r.refresh now).valid = true) (seed : r.seed = false) :
    r.charged t now d = (r.refresh now).count (charge d.current (r.elapsed now) t.acceptance) t.cMas := by
  simp [charged, valid, seed]

/-- Stage 4 as the formula of R17, with its clamp. -/
theorem compensate_eq (voltage : Nat) (current : Int) (rint : Nat) :
    (compensate voltage current rint : Int) = max 0 (min 65535 (voltage + (current * rint).tdiv 1000)) := by
  unfold compensate
  omega

theorem compensate_le (voltage : Nat) (current : Int) (rint : Nat) : compensate voltage current rint ≤ 65535 := by
  unfold compensate
  omega

/-- A filter moves toward its input and no further. -/
theorem filterStep_between (value input : Int) (shift : Nat) :
    min value input ≤ filterStep value input shift ∧ filterStep value input shift ≤ max value input := by
  have between := tdiv_between (input - value) (2 ^ shift)
  unfold filterStep
  omega

/-- The voltage filter's step is not cut off at 0. -/
theorem filterStep_toNat (value input shift : Nat) :
    ((filterStep value input shift).toNat : Int) = filterStep value input shift := by
  have between := filterStep_between value input shift
  omega

/-- Stage 5 as one record update. -/
theorem filter_eq (seeding : Bool) (vc : Nat) (current : Int) (kv ki : Nat) :
    r.filter seeding vc current kv ki =
      { r with
        vf := if seeding then vc else (filterStep r.vf vc kv).toNat
        cur := if seeding then current else filterStep r.cur current ki } := by
  cases seeding <;> rfl

/-- An accepted sample: stages 1 to 3, and over them the filters, the critical count and stage 7 (R3). -/
theorem accept_eq : r.accept t now d =
    let r5 := (r.charged t now d).filter r.seed (compensate d.voltage d.current t.rint) d.current t.kv t.ki
    { r5.countCritical t.vCritical with lastSeq := some d.seq, lastArrival := some now, seed := false } := rfl

/-! ## The fields after an accepted sample -/

@[simp] theorem accept_lastSeq : (r.accept t now d).lastSeq = some d.seq := rfl
@[simp] theorem accept_lastArrival : (r.accept t now d).lastArrival = some now := rfl
@[simp] theorem accept_seed : (r.accept t now d).seed = false := rfl

@[simp] theorem accept_monitor : (r.accept t now d).monitor = .fresh := by
  simp [accept_eq, countCritical, filter_eq, (r.charged_sameButCharge t now d).monitor, refresh_eq]

@[simp] theorem accept_staleAt : (r.accept t now d).staleAt = some (now + 2000) := by
  simp [accept_eq, countCritical, filter_eq, (r.charged_sameButCharge t now d).staleAt, refresh_eq]

@[simp] theorem accept_lostAt : (r.accept t now d).lostAt = some (now + 30000) := by
  simp [accept_eq, countCritical, filter_eq, (r.charged_sameButCharge t now d).lostAt, refresh_eq]

theorem accept_valid : (r.accept t now d).valid = (r.refresh now).valid := by
  simp [accept_eq, countCritical, filter_eq, (r.charged_sameButCharge t now d).valid]

theorem accept_runtime : (r.accept t now d).runtime = (r.refresh now).runtime := by
  simp [accept_eq, countCritical, filter_eq, (r.charged_sameButCharge t now d).runtime]

theorem accept_reserve : (r.accept t now d).reserve = (r.charged t now d).reserve := by
  simp [accept_eq, countCritical, filter_eq]

theorem accept_residue : (r.accept t now d).residue = (r.charged t now d).residue := by
  simp [accept_eq, countCritical, filter_eq]

theorem accept_vf : (r.accept t now d).vf =
    if r.seed then compensate d.voltage d.current t.rint
    else (filterStep r.vf (compensate d.voltage d.current t.rint) t.kv).toNat := by
  simp [accept_eq, countCritical, filter_eq, (r.charged_sameButCharge t now d).vf, refresh_eq]

theorem accept_cur : (r.accept t now d).cur = if r.seed then d.current else filterStep r.cur d.current t.ki := by
  simp [accept_eq, countCritical, filter_eq, (r.charged_sameButCharge t now d).cur, refresh_eq]

/-- The critical count is stepped by the Vf of this very sample (R20). -/
theorem accept_critCount : (r.accept t now d).critCount =
    if (r.accept t now d).vf < t.vCritical then min 20 (r.critCount + 1) else 0 := by
  simp [accept_eq, countCritical, filter_eq, (r.charged_sameButCharge t now d).critCount, refresh_eq, Config.critCountCap]

theorem signals_iff : r.signals t = true ↔ r.vf < t.vCritical ∧ t.critDebounce ≤ r.critCount := by simp [signals]

/-! ## The statements' clauses, on the Reserve Unit alone -/

/-- A return from LOST leaves nothing of the reserve, whatever the sample carries (R4). -/
theorem accept_of_lost (lost : r.monitor = .lost) :
    (r.accept t now d).valid = false ∧ (r.accept t now d).reserve = 0 ∧ (r.accept t now d).residue = 0 ∧
      (r.accept t now d).runtime = none := by
  have untrusted : (r.refresh now).valid = false := by simp [refresh_eq, lost]
  rw [accept_valid, accept_reserve, accept_residue, accept_runtime, charged_eq_refresh _ _ _ _ (.inl untrusted)]
  simp [refresh_eq, lost]

/-- Outside LOST an untrusted reserve and a seeding sample leave reserve and residue as they were (R10). -/
theorem accept_of_uncounted (heard : r.monitor ≠ .lost) (quiet : r.valid = false ∨ r.seed = true) :
    (r.accept t now d).reserve = r.reserve ∧ (r.accept t now d).residue = r.residue := by
  have quiet' : (r.refresh now).valid = false ∨ r.seed = true := by simpa [refresh_eq, heard] using quiet
  rw [accept_reserve, accept_residue, charged_eq_refresh _ _ _ _ quiet']
  simp [refresh_eq, heard]

/-- Outside LOST a trusted reserve counts a sample that is not seeding, in the three cases of R11 and R12. -/
theorem accept_of_counted (heard : r.monitor ≠ .lost) (valid : r.valid = true) (seed : r.seed = false) :
    let sum := r.residue + charge d.current (r.elapsed now) t.acceptance
    let next : Int := r.reserve - sum.tdiv 100
    if t.cMas < next then (r.accept t now d).reserve = t.cMas ∧ (r.accept t now d).residue = 0
    else if next < 0 then (r.accept t now d).reserve = 0 ∧ (r.accept t now d).residue = 0
    else ((r.accept t now d).reserve : Int) = next ∧ (r.accept t now d).residue = sum - sum.tdiv 100 * 100 := by
  have trusted : (r.refresh now).valid = true := by simpa [refresh_eq, heard] using valid
  have counted := (r.refresh now).count_cases (charge d.current (r.elapsed now) t.acceptance) t.cMas
  rw [accept_reserve, accept_residue, charged_eq_count _ _ _ _ trusted seed]
  simpa [refresh_eq, heard] using counted

/-- A seeding sample seeds both filters with their inputs (R18). -/
theorem accept_filters_of_seed (seed : r.seed = true) :
    ((r.accept t now d).vf : Int) = max 0 (min 65535 (d.voltage + (d.current * t.rint).tdiv 1000)) ∧
      (r.accept t now d).cur = d.current := by
  rw [accept_vf, accept_cur, if_pos seed, if_pos seed]
  exact ⟨compensate_eq .., rfl⟩

/-- Any other sample moves each filter by its fraction of the difference (R18). -/
theorem accept_filters_of_step (seed : r.seed = false) :
    let vc : Int := max 0 (min 65535 (d.voltage + (d.current * t.rint).tdiv 1000))
    ((r.accept t now d).vf : Int) = r.vf + (vc - r.vf).tdiv (2 ^ t.kv) ∧
      (r.accept t now d).cur = r.cur + (d.current - r.cur).tdiv (2 ^ t.ki) := by
  simp only [accept_vf, accept_cur, seed, Bool.false_eq_true, if_false]
  rw [filterStep_toNat, compensate_eq]
  simp [filterStep]

/-- The voltage filter stays within 16 bits. -/
theorem accept_vf_le (bounded : r.vf ≤ 65535) : (r.accept t now d).vf ≤ 65535 := by
  have input := compensate_le d.voltage d.current t.rint
  have between := filterStep_between r.vf (compensate d.voltage d.current t.rint) t.kv
  rw [accept_vf]
  split <;> omega

/-- The current filter stays within any range that holds its value and its input. -/
theorem accept_cur_range {lo hi : Int} (value : lo ≤ r.cur ∧ r.cur ≤ hi) (input : lo ≤ d.current ∧ d.current ≤ hi) :
    lo ≤ (r.accept t now d).cur ∧ (r.accept t now d).cur ≤ hi := by
  have between := filterStep_between r.cur d.current t.ki
  rw [accept_cur]
  split <;> omega

end ReserveUnit

namespace Part

variable (s : Part)

/-! ## The notice and the signal of an accepted sample -/

theorem monitorNotice_units (old : MonitorState) :
    (s.monitorNotice old).reserve = s.reserve ∧ (s.monitorNotice old).assess = s.assess := by
  unfold monitorNotice
  split
  · exact ⟨rfl, rfl⟩
  · exact ⟨(notify_step ..).reserve, (notify_step ..).assess⟩

theorem setDepth_reserve (n : Nat) (cause : Cause) : (s.setDepth n cause).reserve = s.reserve :=
  (notify_step ..).reserve

theorem setDepth_assess (n : Nat) (cause : Cause) : (s.setDepth n cause).assess = { s.assess with depth := n } :=
  (notify_step ..).assess

theorem criticalEntry_reserve : s.criticalEntry.reserve = s.reserve := by
  refine (channelCriticalEntry_traffic _).reserve.trans ?_
  split
  · exact setDepth_reserve ..
  · rfl

/-- Critical entry sets critical and starts the release count at 0 (R42). -/
theorem criticalEntry_assess : s.criticalEntry.assess.critical = true ∧ s.criticalEntry.assess.releaseCount = 0 := by
  unfold criticalEntry
  rw [(channelCriticalEntry_traffic _).assess]
  split
  · rw [setDepth_assess]
    exact ⟨rfl, rfl⟩
  · exact ⟨rfl, rfl⟩

theorem criticalSignal_reserve : s.criticalSignal.reserve = s.reserve := by
  unfold criticalSignal
  split
  · rfl
  · exact criticalEntry_reserve s

/-- The signal at the Assessment Unit: entry while critical is clear, the release count alone while it is set
(R42, R43). -/
theorem criticalSignal_assess :
    if s.assess.critical then s.criticalSignal.assess = { s.assess with releaseCount := 0 }
    else s.criticalSignal.assess.critical = true ∧ s.criticalSignal.assess.releaseCount = 0 := by
  unfold criticalSignal
  split
  · rfl
  · exact criticalEntry_assess s

theorem acceptSample_reserve (d : SampleData) : (s.acceptSample d).reserve = s.reserve.accept s.settings s.now d := by
  unfold acceptSample
  extract_lets r s0 s1
  split
  · exact (criticalSignal_reserve s1).trans (monitorNotice_units ..).1
  · exact (monitorNotice_units ..).1

/-- The Assessment Unit takes the critical-entry signal exactly when stage 6 gives it (R20). -/
theorem acceptSample_assess (d : SampleData) :
    if (s.reserve.accept s.settings s.now d).signals s.settings then
      if s.assess.critical then (s.acceptSample d).assess = { s.assess with releaseCount := 0 }
      else (s.acceptSample d).assess.critical = true ∧ (s.acceptSample d).assess.releaseCount = 0
    else (s.acceptSample d).assess = s.assess := by
  unfold acceptSample
  extract_lets r s0 s1
  have before : s1.assess = s.assess := (monitorNotice_units ..).2
  split
  · simpa [before] using criticalSignal_assess s1
  · exact before

/-! ## A SAMPLE offered to the Reserve Unit (R1, R2) -/

theorem offerSample_of_taken {source : NodeId} {data : List Byte} {d : SampleData} (read : sampleData data = some d)
    (monitor : source.toNat = s.settings.monitorNode) (fresh : s.reserve.lastSeq ≠ some d.seq) :
    s.offerSample source data = s.acceptSample d := by
  simp [offerSample, read, monitor, fresh]

theorem offerSample_of_foreign {source : NodeId} (data : List Byte) (other : source.toNat ≠ s.settings.monitorNode) :
    s.offerSample source data = s := by
  unfold offerSample
  split
  · rfl
  · simp [other]

theorem offerSample_of_duplicate (source : NodeId) {data : List Byte} {d : SampleData} (read : sampleData data = some d)
    (last : s.reserve.lastSeq = some d.seq) : s.offerSample source data = s := by
  simp [offerSample, read, last]

theorem sampleData_of_length {data : List Byte} (length : data.length ≠ 5) : sampleData data = none := by
  unfold sampleData
  split
  · exact absurd rfl length
  · rfl

theorem offerSample_of_length (source : NodeId) {data : List Byte} (length : data.length ≠ 5) :
    s.offerSample source data = s := by
  simp [offerSample, sampleData_of_length length]

/-! ## The rest of an arrival on the load segment -/

theorem placePanel_units (f : Frame) :
    (s.placePanel f).reserve = s.reserve ∧ (s.placePanel f).assess = s.assess := by
  unfold placePanel
  split <;> exact ⟨rfl, rfl⟩

/-- The passage of a frame is a place in the panel forward queue, or nothing (R154). -/
theorem passage_units (f : Frame) : (s.passage f).reserve = s.reserve ∧ (s.passage f).assess = s.assess := by
  unfold passage
  split
  · exact placePanel_units s f
  · exact placePanel_units s f
  · exact placePanel_units s f
  · split
    · exact ⟨rfl, rfl⟩
    · exact placePanel_units s f

/-- Hearing, passage and the collected answer leave the Reserve and Assessment Units as the frame's unit left them. -/
theorem loadArrival_units {f : Frame} (active : s.load.port.state = .active) (fits : f.fits = true)
    (foreign : f.head.source ≠ s.nodeId) (roll : List Byte) (unit : Part → Part) :
    (s.loadArrival f roll unit).reserve = (unit s).reserve ∧ (s.loadArrival f roll unit).assess = (unit s).assess := by
  have heard := hearing_traffic (unit s) f.head.source
  have passed := passage_units ((unit s).hearing f.head.source) f
  have collected := collectAnswer_traffic (((unit s).hearing f.head.source).passage f) f roll
  have arrival : s.loadArrival f roll unit =
      ((((unit s).hearing f.head.source).passage f).collectAnswer f roll).loadFrameEnd := by
    simp [loadArrival, active, fits, foreign]
  rw [arrival, loadFrameEnd_reserve, loadFrameEnd_assess]
  exact ⟨collected.reserve.trans (passed.1.trans heard.reserve), collected.assess.trans (passed.2.trans heard.assess)⟩

end Part

/-! ## The command SAMPLE -/

/-- A SAMPLE at the Load Port leaves the two units as the offer to the Reserve Unit leaves them (R154). -/
theorem exec_sample_units {s : State} {h : Head} {data : List Byte} (dt : Nat) (target : BitVec 7)
    (takes : Claims.LoadTakes s h) (fits : dataFits h data) :
    ∃ t, exec (.sample dt h target data) s = .next t ∧
      t.reserve = ((Claims.later s dt).offerSample h.source data).reserve ∧
      t.assess = ((Claims.later s dt).offerSample h.source data).assess :=
  let f : Frame := { head := h, kind := kindSample, target := target, data := data }
  ⟨_, rfl, (Claims.later s dt).loadArrival_units (f := f) takes.1 fits takes.2 [] fun m => m.offerSample h.source data⟩

/-- Five bytes are within the limit of either long mark (R134). -/
theorem dataFits_five (h : Head) (q v1 v0 i1 i0 : Byte) : dataFits h [q, v1, v0, i1, i0] = true := by
  unfold dataFits dataLimit
  split <;> simp

/-- A SAMPLE of the monitor node with a new sequence: the stages of an accepted sample at the Reserve Unit, and the
signal of stage 6 at the Assessment Unit. -/
theorem exec_sample_accepted {s : State} {h : Head} {q : Byte} (dt : Nat) (target : BitVec 7) (v1 v0 i1 i0 : Byte)
    (takes : Claims.LoadTakes s h) (monitor : h.source.toNat = s.settings.monitorNode)
    (fresh : s.reserve.lastSeq ≠ some q) :
    let d : SampleData := { seq := q, voltage := ofBe16 v1 v0, current := ofBe16s i1 i0 }
    ∃ t, exec (.sample dt h target [q, v1, v0, i1, i0]) s = .next t ∧
      t.reserve = s.reserve.accept s.settings (s.now + dt) d ∧
      if t.reserve.signals s.settings then
        if s.assess.critical then t.assess = { s.assess with releaseCount := 0 }
        else t.assess.critical = true ∧ t.assess.releaseCount = 0
      else t.assess = s.assess := by
  intro d
  obtain ⟨t, run, reserve, assess⟩ := exec_sample_units dt target takes (dataFits_five h q v1 v0 i1 i0)
  have offered : (Claims.later s dt).offerSample h.source [q, v1, v0, i1, i0] = (Claims.later s dt).acceptSample d :=
    Part.offerSample_of_taken _ rfl monitor fresh
  rw [offered] at reserve assess
  refine ⟨t, run, reserve.trans (Part.acceptSample_reserve ..), ?_⟩
  rw [assess, reserve, Part.acceptSample_reserve]
  exact Part.acceptSample_assess (Claims.later s dt) d

end Sys2Proof.Machine

namespace Sys2Proof.Claims

open Sys2Proof.Machine Sys2Proof.Machine.ReserveUnit

/-! ## The statements -/

/-- Settles O12: the three ways a SAMPLE is not accepted leave the part as it was before the hearing. -/
theorem sampleIntake : Obligations.SampleIntake := by
  intro s dt h target data takes fits
  obtain ⟨t, run, reserve, -⟩ := exec_sample_units dt target takes fits
  refine ⟨t, run, ?_, ?_⟩
  · rintro (length | foreign)
    · rw [reserve, Part.offerSample_of_length _ _ length]
      rfl
    · rw [reserve, Part.offerSample_of_foreign (later s dt) data foreign]
      rfl
  · rintro q v1 v0 i1 i0 rfl monitor
    split
    case isTrue last =>
      rw [reserve, Part.offerSample_of_duplicate _ _ rfl last]
      rfl
    case isFalse fresh =>
      have taken := Part.offerSample_of_taken (later s dt) (data := [q, v1, v0, i1, i0]) rfl monitor fresh
      rw [reserve, taken, Part.acceptSample_reserve]
      exact ⟨rfl, rfl, rfl⟩

/-- Settles O13, by the cases of the monitor state and of stage 3. -/
theorem sampleCharge : Obligations.SampleCharge := by
  intro s dt h target q v1 v0 i1 i0 takes monitor fresh
  obtain ⟨t, run, reserve, -⟩ := exec_sample_accepted dt target v1 v0 i1 i0 takes monitor fresh
  refine ⟨t, run, ?_⟩
  rw [reserve]
  refine ⟨accept_monitor .., accept_staleAt .., accept_lostAt .., ?_⟩
  split
  case isTrue lost => exact accept_of_lost _ _ _ _ lost
  case isFalse heard =>
    refine ⟨?_, ?_, accept_of_uncounted _ _ _ _ heard, ?_⟩
    · simp [accept_valid, refresh_eq, heard]
    · simp [accept_runtime, refresh_eq, heard]
    · intro a valid seed arrived
      have counted := accept_of_counted _ s.settings (s.now + dt)
        { seq := q, voltage := ofBe16 v1 v0, current := ofBe16s i1 i0 } heard valid seed
      rw [elapsed_of_lastArrival _ _ arrived] at counted
      exact counted

/-- Settles O14: the filters by `filterStep_between`, the count and its signal by the laws of stage 6. -/
theorem filtersAndCriticalCount : Obligations.FiltersAndCriticalCount := by
  constructor
  · intro s dt h target q v1 v0 i1 i0 takes monitor fresh
    obtain ⟨t, run, reserve, -⟩ := exec_sample_accepted dt target v1 v0 i1 i0 takes monitor fresh
    refine ⟨t, run, ?_⟩
    rw [reserve]
    exact ⟨accept_filters_of_seed _ _ _ _, accept_filters_of_step _ _ _ _, accept_vf_le _ _ _ _,
      fun value => accept_cur_range _ _ _ _ value (ofBe16s_range ..)⟩
  · intro s dt h target q v1 v0 i1 i0 takes monitor fresh
    obtain ⟨t, run, reserve, signal⟩ := exec_sample_accepted dt target v1 v0 i1 i0 takes monitor fresh
    refine ⟨t, run, ?_, fun due => ?_, fun quiet => ?_⟩
    · rw [reserve]
      exact accept_critCount ..
    · rwa [if_pos ((signals_iff ..).mpr due)] at signal
    · rwa [if_neg (mt (signals_iff ..).mp quiet)] at signal

end Sys2Proof.Claims

/-! # Resets (10)

What either reset leaves of the units it starts over, said once for both, and the statement of the family. -/

namespace Sys2Proof.Machine

namespace Part

/-- What either reset of `s` leaves of the units that both start over, and the store it keeps. -/
structure StartsOver (s t : Part) : Prop where
  chans        : t.chans = Vector.replicate 48 ChanRec.atReset
  overrides    : t.overrides = Vector.replicate 4 none
  ctxs         : t.ctxs = Vector.replicate 48 none
  seq          : t.seq = Sequencer.atReset
  roster       : t.roster = RosterUnit.atReset t.mgmt.active
  load         : t.load = LoadPort.atReset
  panel        : t.panel = PanelPort.atReset
  moduleAbsent : t.alerts.moduleAbsent = false
  portFault    : t.alerts.portFault = false
  commit       : t.mgmt.commit = .idle
  reading      : t.mgmt.reading = true
  store        : t.mgmt.store = s.mgmt.store

namespace StartsOver

variable {s t : Part} (o : StartsOver s t)
include o

theorem channel (c : Channel) : t.ctxs[c] = none ∧ t.chans[c] = ChanRec.atReset := by
  simp [o.ctxs, o.chans]

theorem override (k : Fin 4) : t.overrides[k] = none := by
  simp [o.overrides]

theorem core (p : PortId) : t.core p = PortCore.atReset := by
  cases p
  case load => exact congrArg LoadPort.port o.load
  case panel => exact congrArg PanelPort.port o.panel

end StartsOver

/-! ## The two resets -/

variable (s : Part)

theorem hardwareReset_startsOver (node : BitVec 4) (fall : BitVec 3) : StartsOver s (s.hardwareReset node fall) := by
  constructor <;> rfl

/-- The four node straps are sampled above the base 8, and the sum stays within the six bits of a node ID (R185). -/
theorem hardwareReset_nodeId (node : BitVec 4) (fall : BitVec 3) :
    (s.hardwareReset node fall).nodeId.toNat = 8 + node.toNat := by
  have base : Config.nodeBase.toNat = 8 := rfl
  have within : node.toNat < 16 := node.isLt
  simp only [hardwareReset, Part.atRelease, BitVec.toNat_add, base, BitVec.truncate_eq_setWidth, BitVec.toNat_setWidth]
  omega

/-- A management reset that a RESTART arranged is carried out (R180). -/
theorem managementReset_startsOver (armed : s.mgmt.restartArmed = true) : StartsOver s s.managementReset := by
  rw [managementReset, if_pos armed]
  constructor <;> rfl

/-- The management reset keeps the Reserve Unit, the two alert conditions of the reserve and the node ID, and of the
Assessment Unit all but the counts and the unsettled mark (R25, R48). -/
theorem managementReset_keeps (armed : s.mgmt.restartArmed = true) :
    s.managementReset.reserve = s.reserve ∧ s.managementReset.assess = assessRestarted s.assess ∧
    s.managementReset.alerts.critical = s.alerts.critical ∧
    s.managementReset.alerts.monitorLost = s.alerts.monitorLost ∧ s.managementReset.nodeId = s.nodeId := by
  rw [managementReset, if_pos armed]
  exact ⟨rfl, rfl, rfl, rfl, rfl⟩

end Part

/-! ## The commands -/

theorem exec_hardwareReset (s : State) (dt : Nat) (node : BitVec 4) (fall : BitVec 3) :
    Claims.Becomes (.hardwareReset dt node fall) s ((Claims.later s dt).hardwareReset node fall) := rfl

theorem exec_managementReset (s : State) (dt : Nat) :
    Claims.Becomes (.managementReset dt) s (Claims.later s dt).managementReset := rfl

end Sys2Proof.Machine

namespace Sys2Proof.Claims

open Sys2Proof.Machine

/-- Settles O59: the values of the hardware reset are those of `Part.atRelease`; what the two resets share is
`Part.StartsOver`. -/
theorem resetValues : Obligations.ResetValues := by
  constructor
  · intro s dt node fall
    exact ⟨_, exec_hardwareReset s dt node fall, Part.hardwareReset_nodeId _ node fall, rfl, rfl, rfl, rfl⟩
  · intro s dt node fall i reset
    have carriedOut : ∃ t : State, exec i s = .next t ∧ Part.StartsOver (later s dt) t.toPart ∧
        (i = .managementReset dt → t.reserve = s.reserve ∧ t.assess = Part.assessRestarted s.assess ∧
          t.alerts.critical = s.alerts.critical ∧ t.alerts.monitorLost = s.alerts.monitorLost ∧
          t.nodeId = s.nodeId) := by
      obtain rfl | ⟨rfl, armed⟩ := reset
      · exact ⟨_, exec_hardwareReset s dt node fall, Part.hardwareReset_startsOver _ node fall, nofun⟩
      · exact ⟨_, exec_managementReset s dt, Part.managementReset_startsOver _ armed,
          fun _ => Part.managementReset_keeps _ armed⟩
    obtain ⟨t, run, shared, kept⟩ := carriedOut
    refine ⟨t, run, fun c => shared.channel c, fun k => shared.override k, shared.seq, fun p => shared.core p, ?_⟩
    rw [shared.load, shared.panel, shared.roster]
    exact ⟨rfl, rfl, rfl, rfl, rfl, rfl, rfl, rfl, rfl, rfl, rfl, rfl, rfl, rfl, rfl, rfl, rfl, rfl,
      shared.moduleAbsent, shared.portFault, shared.commit, shared.reading, shared.store, kept⟩

end Sys2Proof.Claims

/-! # The channel table (03): BOOST, RELEASE and RETAIN

How a panel frame reaches its unit, what a notice and an entry to a state leave alone, the override table's two reads,
what a boost's switch-on may touch, and the walk over the channels n..47; then the two statements of the family. -/

namespace Sys2Proof.Machine

/-- What an override entry holds besides its switch-on deadline. -/
def Override.heldUntil (o : Override) : Channel × Nat := (o.ch, o.expiry)

/-- The first index of a `finRange` that meets a test. -/
theorem find?_finRange_eq_some {n : Nat} {p : Fin n → Bool} {i : Fin n} :
    (List.finRange n).find? p = some i ↔ p i = true ∧ ∀ j < i, ¬p j = true :=
  List.find?_ofFn_eq_some_of_injective (f := id) Function.injective_id

/-- Two commands of one kind are for one channel (R158). -/
theorem EngBody.sameKind_channel {a b : EngBody} (same : a.sameKind b = true) : a.channel = b.channel :=
  of_decide_eq_true (Bool.and_eq_true _ _ ▸ same).1

namespace Part

/-! ## A panel frame that is taken -/

/-- Either long mark leaves room for 8 bytes of data (R134). -/
theorem eight_le_dataLimit (long : Bool) : 8 ≤ dataLimit long := by
  cases long <;> decide

theorem panelArrival_of_taken {s : Part} {f : Frame} (active : s.panel.port.state = .active) (short : f.data.length ≤ 8)
    (foreign : f.head.source ≠ s.nodeId) (act : Part → Part) : s.panelArrival f act = act s := by
  have fits : f.fits = true := decide_eq_true (short.trans (eight_le_dataLimit _))
  rw [panelArrival, if_pos ⟨active, fits⟩, if_neg foreign]

/-! ## A notice, and an entry to a state -/

section
variable (s : Part)

/-- A notice changes the Panel Port alone (R164). -/
theorem notify_eq (b : NoticeBody) : s.notify b = { s with panel := (s.notify b).panel } := by
  unfold notify
  split <;> rfl

/-- An entry to a state changes the channel's state and gives at most a notice (R76). -/
theorem enter_eq (c : Channel) (st : ChanState) :
    s.enter c st = { s.modChan c fun r => { r with state := st } with panel := (s.enter c st).panel } := by
  unfold enter
  simp only
  split
  · exact notify_eq ..
  · rfl

@[simp] theorem enter_chans (c : Channel) (st : ChanState) :
    (s.enter c st).chans = s.chans.set c { s.chans[c] with state := st } := by rw [enter_eq]; rfl
@[simp] theorem enter_overrides (c : Channel) (st : ChanState) : (s.enter c st).overrides = s.overrides := by
  rw [enter_eq]; rfl
@[simp] theorem enter_ctxs (c : Channel) (st : ChanState) : (s.enter c st).ctxs = s.ctxs := by rw [enter_eq]; rfl
@[simp] theorem enter_seq (c : Channel) (st : ChanState) : (s.enter c st).seq = s.seq := by rw [enter_eq]; rfl

end

/-! ## The override table (R64) -/

section
variable (s : Part) (c : Channel)

theorem overrideOf_eq_some {i : Fin 4} :
    s.overrideOf c = some i ↔
      s.overrides[i].map Override.ch = some c ∧ ∀ j < i, ¬s.overrides[j].map Override.ch = some c := by
  simp only [overrideOf, find?_finRange_eq_some, decide_eq_true_eq]

theorem overrideOf_eq_none : s.overrideOf c = none ↔ ∀ j : Fin 4, ¬s.overrides[j].map Override.ch = some c := by
  simp [overrideOf]

theorem freeOverride_eq_some {i : Fin 4} :
    s.freeOverride = some i ↔ s.overrides[i] = none ∧ ∀ j < i, s.overrides[j] ≠ none := by
  simp only [freeOverride, find?_finRange_eq_some, Option.isNone_iff_eq_none, ne_eq]

/-- The entry that a grant takes or renews, by index (R64). -/
def takesEntry (i : Fin 4) : Prop := s.overrideOf c = some i ∨ (s.overrideOf c = none ∧ s.freeOverride = some i)

/-- The expiry of a grant: the minutes, clamped to 1..the boost maximum, from now (R64). -/
def boostExpiry (minutes : Byte) : Nat := s.now + 60000 * max 1 (min minutes.toNat (s.cfg c).boostMax)

/-- A grant writes the override table alone. -/
theorem takeOverride_eq (m : Byte) : s.takeOverride c m = { s with overrides := (s.takeOverride c m).overrides } := by
  unfold takeOverride
  simp only
  split
  · rfl
  · split <;> rfl

/-- The entry taken holds the channel until the new expiry (R64). -/
theorem takeOverride_of_takesEntry (m : Byte) {i : Fin 4} (taken : s.takesEntry c i) :
    ∃ o, o.heldUntil = (c, s.boostExpiry c m) ∧ s.takeOverride c m = s.setOverride i (some o) := by
  unfold takeOverride
  obtain own | ⟨own, free⟩ := taken
  · obtain ⟨o, entry, rfl⟩ := Option.map_eq_some_iff.mp ((overrideOf_eq_some s c).mp own).1
    rw [own]
    simp only [entry, Option.map_some]
    exact ⟨_, rfl, rfl⟩
  · rw [own, free]
    exact ⟨_, rfl, rfl⟩

theorem takeOverride_entry (m : Byte) {i : Fin 4} (taken : s.takesEntry c i) :
    (s.takeOverride c m).overrides[i].map Override.heldUntil = some (c, s.boostExpiry c m) := by
  obtain ⟨o, held, grant⟩ := takeOverride_of_takesEntry s c m taken
  simp [grant, held]

/-- The other entries stand. -/
theorem takeOverride_of_not_takesEntry (m : Byte) {i : Fin 4} (spared : ¬s.takesEntry c i) :
    (s.takeOverride c m).overrides[i] = s.overrides[i] := by
  by_cases any : ∃ k, s.takesEntry c k
  · obtain ⟨k, taken⟩ := any
    obtain ⟨o, -, grant⟩ := takeOverride_of_takesEntry s c m taken
    have apart : k.val ≠ i.val := fun e => spared (Fin.ext e ▸ taken)
    simp [grant, apart]
  · have own : s.overrideOf c = none := Option.eq_none_iff_forall_ne_some.mpr fun k own => any ⟨k, .inl own⟩
    have free : s.freeOverride = none :=
      Option.eq_none_iff_forall_ne_some.mpr fun k free => any ⟨k, .inr ⟨own, free⟩⟩
    simp [takeOverride, own, free]

end

/-! ## The switch-on of a boost (R65) -/

/-- What the switch-on of channel `c` leaves alone: the other channels, the channel's own state and intent, the
contexts, the shed list, and all of the override table but its deadlines. -/
structure SwitchesOn (c : Channel) (s t : Part) : Prop where
  others  : ∀ d : Channel, d ≠ c → t.chans[d] = s.chans[d]
  state   : t.chans[c].state = s.chans[c].state
  intent  : t.chans[c].intent = s.chans[c].intent
  ctxs    : t.ctxs = s.ctxs
  list    : t.seq.list = s.seq.list
  entries : ∀ i : Fin 4, t.overrides[i].map Override.heldUntil = s.overrides[i].map Override.heldUntil

namespace SwitchesOn

variable {c : Channel} {s t u : Part}

theorem refl (c : Channel) (s : Part) : SwitchesOn c s s := by constructor <;> simp

theorem trans (h : SwitchesOn c s t) (k : SwitchesOn c t u) : SwitchesOn c s u where
  others d apart := (k.others d apart).trans (h.others d apart)
  state := k.state.trans h.state
  intent := k.intent.trans h.intent
  ctxs := k.ctxs.trans h.ctxs
  list := k.list.trans h.list
  entries i := (k.entries i).trans (h.entries i)

end SwitchesOn

variable (s : Part) (c : Channel)

/-- A change of the channel's record that keeps its state and its intent. -/
theorem modChan_switchesOn (f : ChanRec → ChanRec) (state : (f s.chans[c]).state = s.chans[c].state)
    (intent : (f s.chans[c]).intent = s.chans[c].intent) : SwitchesOn c s (s.modChan c f) where
  others d apart := modChan_other s c d f apart.symm
  state := by rw [modChan_same, state]
  intent := by rw [modChan_same, intent]
  ctxs := rfl
  list := rfl
  entries _ := rfl

theorem staleTerminal_switchesOn : SwitchesOn c s (s.staleTerminal c) := by
  unfold staleTerminal
  split
  · exact .refl c s
  · exact modChan_switchesOn s c _ rfl rfl

/-- A command of the channel that is handed back touches no other channel (R60, R107). -/
theorem handBack_switchesOn {r : Request} (own : r.body.channel = some c) : SwitchesOn c s (s.handBack r) := by
  unfold handBack
  rw [own]
  split
  next => constructor <;> simp
  next same =>
    obtain rfl := Option.some.inj same
    exact staleTerminal_switchesOn s c
  next same =>
    obtain rfl := Option.some.inj same
    exact staleTerminal_switchesOn s c
  next => exact .refl c s

theorem handBacks_switchesOn {rs : List Request} (own : ∀ r ∈ rs, r.body.channel = some c) (s : Part) :
    SwitchesOn c s (rs.foldl handBack s) := by
  induction rs generalizing s with
  | nil => exact .refl c s
  | cons r rs ih =>
    obtain ⟨first, rest⟩ := List.forall_mem_cons.mp own
    exact (handBack_switchesOn s c first).trans (ih rest _)

/-- A command of the channel takes a slot, or the place of the channel's awaiting command (R157, R158). -/
theorem request_switchesOn {b : EngBody} (own : b.channel = some c) (p : Purpose) :
    SwitchesOn c s (s.request b p) := by
  unfold request
  split
  · constructor <;> simp
  · refine SwitchesOn.trans (t := { s with load := _ }) (by constructor <;> simp)
      (handBacks_switchesOn c (fun r replaced => ?_) _)
    exact (EngBody.sameKind_channel (List.mem_filter.mp replaced).2).trans own

theorem intentCommand_channel : (s.intentCommand c).channel = some c := by
  unfold intentCommand
  split <;> rfl

theorem boostSwitchOn_switchesOn : SwitchesOn c s (s.boostSwitchOn c) := by
  unfold boostSwitchOn
  split
  · exact .refl c s
  · exact (request_switchesOn s c (intentCommand_channel s c) _).trans (modChan_switchesOn _ c _ rfl rfl)

theorem startBoostOn_switchesOn : SwitchesOn c s (s.startBoostOn c) := by
  unfold startBoostOn
  split
  · exact boostSwitchOn_switchesOn s c
  · refine ⟨fun _ _ => rfl, rfl, rfl, rfl, rfl, fun i => ?_⟩
    simp only [Fin.getElem_fin, Vector.getElem_map]
    split
    · rw [Option.map_map]
      rfl
    · rfl

/-! ## A granted BOOST (R63, R64) -/

/-- A granted BOOST up to its switch-on (R64). -/
def boosted (m : Byte) : Part :=
  ((((s.takeOverride c m).modChan c fun r => { r with intent := boostIntent r.intent }).abort c).unlist c).enter c
    .overridden

theorem grantBoost_switchesOn (m : Byte) : SwitchesOn c (s.boosted c m) (s.grantBoost c m) := by
  unfold grantBoost
  simp only
  split
  · exact startBoostOn_switchesOn ..
  · exact .refl ..

theorem boosted_chans (m : Byte) : (s.boosted c m).chans =
    s.chans.set c { s.chans[c] with state := .overridden, intent := boostIntent s.chans[c].intent } := by
  rw [boosted, takeOverride_eq]
  simp

theorem boosted_overrides (m : Byte) : (s.boosted c m).overrides = (s.takeOverride c m).overrides := by
  simp [boosted]

theorem boosted_ctxs (m : Byte) : (s.boosted c m).ctxs = s.ctxs.set c none := by
  rw [boosted, takeOverride_eq]
  simp

theorem boosted_list (m : Byte) : (s.boosted c m).seq.list = s.seq.list.filter (· ≠ c) := by
  rw [boosted, takeOverride_eq]
  simp

/-- The channel has an entry or one is free, said of the table at once. -/
theorem hasEntry_iff : ((s.overrideOf c).isSome || s.freeOverride.isSome) = true ↔
    ∃ i : Fin 4, s.overrides[i] = none ∨ s.overrides[i].map Override.ch = some c := by
  simp only [overrideOf, freeOverride, Bool.or_eq_true, List.find?_isSome, List.mem_finRange, true_and,
    decide_eq_true_eq, Option.isNone_iff_eq_none, exists_or, or_comm]

/-- The conditions of a grant, as R63 lists them. -/
theorem boostGranted_iff {m : Byte} (minutes : m ≠ 0) : s.boostGranted c m = true ↔
    boostable s.chans[c].state = true ∧ 1 ≤ s.tier c ∧ (s.cfg c).boostOk = true ∧ s.assess.critical = false ∧
      ∃ i : Fin 4, s.overrides[i] = none ∨ s.overrides[i].map Override.ch = some c := by
  rw [← hasEntry_iff]
  simp only [boostGranted, minutes, Bool.and_eq_true, bne_iff_ne, ne_eq, not_false_eq_true, true_and,
    decide_eq_true_eq, Bool.not_eq_true', and_assoc]

end Part

/-! ## RELEASE and RETAIN (R70, R71) -/

/-- What RELEASE reads and writes of one channel: its record, its context, and whether it stands on the shed list and
in the override table. -/
@[ext] structure ChannelView where
  record : ChanRec
  ctx    : Option Context
  listed : Prop
  held   : Prop

/-- RELEASE of one channel, on its own view (R70). -/
def ChannelView.released (v : ChannelView) : ChannelView :=
  if v.record.managed then
    { record := { v.record with state := .released, managed := false }, ctx := none, listed := False, held := False }
  else v

/-- RETAIN of one channel, on its own record (R71). -/
def ChanRec.retained (r : ChanRec) : ChanRec :=
  if r.state = .released then { Part.forgetChan r with managed := true, state := .unknown } else r

namespace Part

/-- The view of a channel in this part. -/
def view (s : Part) (c : Channel) : ChannelView :=
  { record := s.chans[c], ctx := s.ctxs[c], listed := c ∈ s.seq.list
    held := ∃ i : Fin 4, s.overrides[i].map Override.ch = some c }

/-- Operations that change their own channel alone, one after the other on channels that do not repeat: each channel
of the list changes once, and the others not at all. -/
theorem forEach_view {β : Type} {view : Part → Channel → β} {f : Part → Channel → Part} {g : β → β}
    (own : ∀ s c, view (f s c) c = g (view s c)) (other : ∀ s c d, c ≠ d → view (f s c) d = view s d)
    {cs : List Channel} (once : cs.Nodup) (s : Part) (c : Channel) :
    view (s.forEach cs f) c = if c ∈ cs then g (view s c) else view s c := by
  induction cs generalizing s with
  | nil => simp [forEach]
  | cons d ds ih =>
    obtain ⟨fresh, once⟩ := List.nodup_cons.mp once
    have step : view (s.forEach (d :: ds) f) c = if c ∈ ds then g (view (f s d) c) else view (f s d) c := ih once _
    rw [step]
    by_cases same : d = c
    · subst same
      simp [fresh, own]
    · simp [other s d c same, Ne.symm same]

theorem channelsFrom_nodup (n : Nat) : (channelsFrom n).Nodup := (List.nodup_finRange 48).filter _

theorem mem_channelsFrom {n : Nat} {c : Channel} : c ∈ channelsFrom n ↔ n ≤ c.val := by
  simp [channelsFrom, allChannels]

/-- Freeing a channel's entry leaves the entries of the other channels. -/
theorem freed_iff (o : Option Override) {c d : Channel} (apart : c ≠ d) :
    (if o.map Override.ch = some c then none else o).map Override.ch = some d ↔ o.map Override.ch = some d := by
  split
  case isTrue mine => simp [mine, apart]
  case isFalse => rfl

theorem freed_ne (o : Option Override) (c : Channel) :
    (if o.map Override.ch = some c then none else o).map Override.ch ≠ some c := by
  split
  case isTrue => exact nofun
  case isFalse other => exact other

section
variable (s : Part)

theorem releaseOne_own (c : Channel) : (s.releaseOne c).view c = (s.view c).released := by
  unfold releaseOne ChannelView.released
  have record : (s.view c).record = s.chans[c] := rfl
  rw [record]
  split
  · ext1
    · simp [view]
    · simp [view]
    · simp [view]
    · exact eq_false fun ⟨i, own⟩ => freed_ne _ c (by simpa using own)
  · rfl

theorem releaseOne_other (c d : Channel) (apart : c ≠ d) : (s.releaseOne c).view d = s.view d := by
  unfold releaseOne
  split
  · have away : c.val ≠ d.val := fun e => apart (Fin.ext e)
    ext1
    · simp [view, away]
    · simp [view, away]
    · simp [view, apart.symm]
    · exact eq_iff_iff.mpr (exists_congr fun i => by simpa using freed_iff _ apart)
  · rfl

theorem releaseFrom_view (n : Nat) (c : Channel) :
    (s.releaseFrom n).view c =
      if n ≤ c.val ∧ s.chans[c].managed = true then
        { record := { s.chans[c] with state := .released, managed := false }, ctx := none, listed := False, held := False }
      else s.view c := by
  rw [releaseFrom, forEach_view releaseOne_own releaseOne_other (channelsFrom_nodup n), ite_and]
  simp only [mem_channelsFrom]
  rfl

/-- RETAIN of a channel writes its record alone: UNKNOWN is entered without a notice (R76). -/
theorem retainOne_eq (c : Channel) : s.retainOne c = { s with chans := s.chans.set c s.chans[c].retained } := by
  unfold retainOne ChanRec.retained
  split
  · simp [enter, noticed, modChan]
  · simp

theorem retainFrom_chan (n : Nat) (c : Channel) :
    (s.retainFrom n).chans[c] = if n ≤ c.val then s.chans[c].retained else s.chans[c] := by
  rw [retainFrom, forEach_view (view := fun s c => s.chans[c]) (g := ChanRec.retained) ?own ?other (channelsFrom_nodup n)]
  case own =>
    intro s c
    simp [retainOne_eq]
  case other =>
    intro s c d apart
    have away : c.val ≠ d.val := fun e => apart (Fin.ext e)
    simp [retainOne_eq, away]
  simp only [mem_channelsFrom]

/-- RETAIN of several channels changes channel records alone. -/
theorem forEach_retainOne_eq (cs : List Channel) :
    s.forEach cs retainOne = { s with chans := (s.forEach cs retainOne).chans } := by
  induction cs generalizing s with
  | nil => rfl
  | cons c cs ih =>
    have step : s.forEach (c :: cs) retainOne = (s.retainOne c).forEach cs retainOne := rfl
    rw [step, ih, retainOne_eq]

theorem retainFrom_eq (n : Nat) : s.retainFrom n = { s with chans := (s.retainFrom n).chans } :=
  forEach_retainOne_eq s _

end

end Part

/-! ## The commands -/

/-- A panel frame that the port takes is carried out by its unit once the command's time has passed. -/
theorem becomes_of_panelArrival {i : Instr} {s : State} {dt : Nat} {h : Head} (frame : Part → Frame) (act : Part → Part)
    (run : exec i s = event s dt fun m => m.panelArrival (frame m) act) (takes : Claims.PanelTakes s h)
    (head : (frame (Claims.later s dt)).head = h) (short : (frame (Claims.later s dt)).data.length ≤ 8) :
    Claims.Becomes i s (act (Claims.later s dt)) := by
  obtain ⟨active, foreign⟩ := takes
  rw [Claims.Becomes, run, event, Part.panelArrival_of_taken (s := Claims.later s dt) active short (head ▸ foreign)]

section
variable {s : State} {h : Head} (dt : Nat) (takes : Claims.PanelTakes s h)
include takes

theorem exec_boost (c : Channel) (m : Byte) :
    Claims.Becomes (.boost dt h c m) s ((Claims.later s dt).boostFrame c m) :=
  becomes_of_panelArrival (fun _ => switchTo h c [actBoost, m]) (·.boostFrame c m) rfl takes rfl (by simp [switchTo])

theorem exec_release (n : Byte) : Claims.Becomes (.release dt h [n]) s ((Claims.later s dt).mgmtRelease [n]) :=
  becomes_of_panelArrival (·.mgmtFrame h [Part.codeRelease, n]) (·.mgmtRelease [n]) rfl takes rfl
    (by simp [Part.mgmtFrame])

theorem exec_retain (n : Byte) : Claims.Becomes (.retain dt h [n]) s ((Claims.later s dt).mgmtRetain [n]) :=
  becomes_of_panelArrival (·.mgmtFrame h [Part.codeRetain, n]) (·.mgmtRetain [n]) rfl takes rfl
    (by simp [Part.mgmtFrame])

end

end Sys2Proof.Machine

namespace Sys2Proof.Claims

open Sys2Proof.Machine Sys2Proof.Machine.Part

/-! ## The statements -/

theorem boostGranted_later_iff {s : State} {c : Channel} {m : Byte} (dt : Nat) (minutes : m ≠ 0) :
    (later s dt).boostGranted c m = true ↔ boostMeets s c := by
  have states : boostable s.chans[c].state = true ↔
      s.chans[c].state = .live ∨ s.chans[c].state = .shedding ∨ s.chans[c].state = .shed ∨
        s.chans[c].state = .barred ∨ s.chans[c].state = .restoring ∨ s.chans[c].state = .overridden := by
    cases s.chans[c].state <;> simp [boostable]
  rw [boostGranted_iff _ _ minutes, boostMeets, ← states]
  rfl

theorem exec_boost_of_meets {s : State} {h : Head} {c : Channel} {m : Byte} (dt : Nat) (takes : PanelTakes s h)
    (minutes : m ≠ 0) (meets : boostMeets s c) :
    Becomes (.boost dt h c m) s (((later s dt).grantBoost c m).giveVerdict verBoosted) := by
  have granted := (boostGranted_later_iff dt minutes).mpr meets
  have run := exec_boost dt takes c m
  rwa [boostFrame, if_pos granted] at run

theorem exec_boost_of_not_meets {s : State} {h : Head} {c : Channel} {m : Byte} (dt : Nat) (takes : PanelTakes s h)
    (minutes : m ≠ 0) (fails : ¬boostMeets s c) : Becomes (.boost dt h c m) s (verdictOnly s dt 0x02) := by
  have refused := mt (boostGranted_later_iff dt minutes).mp fails
  have run := exec_boost dt takes c m
  rwa [boostFrame, if_neg refused] at run

/-- The intent after a grant: a LEVEL n of a sound part is not 0, so it is kept, and every other intent is ON (R64). -/
theorem boostIntent_eq {p : Part} (sound : IntentsSound p) (c : Channel) :
    boostIntent p.chans[c].intent =
      if (p.chans[c].intent.map Intent.code).getD 0 ≠ 0 ∧ p.chans[c].intent ≠ some .on then p.chans[c].intent
      else some .on := by
  cases wish : p.chans[c].intent with
  | none => rfl
  | some i =>
    cases i with
    | off => rfl
    | on => simp [boostIntent]
    | level n =>
      have positive : n ≠ 0 := Nat.one_le_iff_ne_zero.mp (sound.level c n wish).1
      simp [boostIntent, Intent.code, positive]

/-- Settles O28: the conditions by `boostGranted_iff`, the effects by those of `boosted` and what the switch-on that
follows leaves alone. -/
theorem boostGranted : Obligations.BoostGranted := by
  constructor
  · intro s dt h c m takes minutes
    by_cases meets : boostMeets s c
    · refine ⟨_, exec_boost_of_meets dt takes minutes meets, fun _ => ⟨rfl, ?_, ?_⟩, fun fails => absurd meets fails⟩
      · have kept := ((later s dt).grantBoost_switchesOn c m).state
        simpa [giveVerdict, boosted_chans] using kept
      · exact ((later s dt).grantBoost_step c m).loadForward
    · exact ⟨_, exec_boost_of_not_meets dt takes minutes meets, fun holds => absurd holds meets, fun _ => rfl⟩
  · intro s dt h c m sound takes minutes meets
    have kept := (later s dt).grantBoost_switchesOn c m
    refine ⟨_, exec_boost_of_meets dt takes minutes meets, ?_⟩
    extract_lets expiry holds first free
    refine ⟨fun i => ?_, ?_, ?_, ?_, fun d apart => ?_⟩
    · have taken : (later s dt).takesEntry c i ↔ first i ∨ free i := by
        rw [takesEntry, overrideOf_eq_some, overrideOf_eq_none, freeOverride_eq_some]
        rfl
      refine (kept.entries i).trans ?_
      rw [boosted_overrides]
      split
      case isTrue own => exact takeOverride_entry _ c m (taken.mpr own)
      case isFalse other => exact congrArg _ (takeOverride_of_not_takesEntry _ c m (mt taken.mp other))
    · rw [← boostIntent_eq sound]
      simpa [giveVerdict, boosted_chans] using kept.intent
    · simpa [giveVerdict, boosted_ctxs] using congrArg (·[c]) kept.ctxs
    · exact kept.list.trans (boosted_list ..)
    · have away : c.val ≠ d.val := fun e => apart (Fin.ext e.symm)
      simpa [giveVerdict, boosted_chans, away] using kept.others d apart

/-- Settles O57: each command walks over the channels n..47, and changes at its turn the view of one channel. -/
theorem releaseAndRetain : Obligations.ReleaseAndRetain := by
  intro s dt h n takes
  have release := exec_release dt takes n
  have retain := exec_retain dt takes n
  refine ⟨fun past => ?_, fun within => ?_⟩
  · simp only [mgmtRelease, mgmtRetain, past, if_true] at release retain
    exact ⟨release, retain⟩
  · simp only [mgmtRelease, mgmtRetain, not_lt.mpr within, if_false] at release retain
    refine ⟨⟨_, release, rfl, fun c => ?_⟩, _, retain, rfl, ?_⟩
    · have walked := (later s dt).releaseFrom_view n.toNat c
      by_cases hit : n.toNat ≤ c.val ∧ s.chans[c].managed = true
      · rw [if_pos hit]
        obtain ⟨record, ctx, listed, held⟩ := ChannelView.mk.inj (walked.trans (if_pos hit))
        exact ⟨record, ctx, of_eq_false listed, fun i own => of_eq_false held ⟨i, own⟩⟩
      · rw [if_neg hit]
        obtain ⟨record, ctx, listed, -⟩ := ChannelView.mk.inj (walked.trans (if_neg hit))
        exact ⟨record, ctx, iff_of_eq listed⟩
    · rw [retainFrom_eq]
      refine ⟨rfl, rfl, rfl, rfl, rfl, fun c => ?_⟩
      refine ((later s dt).retainFrom_chan n.toNat c).trans ?_
      simp only [ChanRec.retained, ite_and]
      rfl

end Sys2Proof.Claims
